-- ==== Sys2Proof/Word.lean ====
section
/-!
DEFINITION. The fixed widths of the block's values and the one narrowing of its arithmetic (spec 00_scope.md R7, R11,
R12, R16, R17; 30_encoding.md R70, R75). Every value is unsigned (R16).
-/

namespace Sys2Proof

/-- A 32-bit value: the Clock Counter (R7) and an operation word (R70). -/
abbrev Word := BitVec 32

/-- A 16-bit value: Actuator Position and compare register, POS_W = CMP_W = 16 (R11). -/
abbrev Half := BitVec 16

/-- An 8-bit value: the fields `address` and `command`, ADDR_W = CMD_W = 8 (R12). -/
abbrev Byte := BitVec 8

/-- The 28-bit millisecond count of HOST_DELAY (R75). -/
abbrev Millis := BitVec 28

/-- `wrap32(v) = v mod 2^32` (R17). -/
def wrap32 (n : Nat) : Word := BitVec.ofNat 32 n

end Sys2Proof
end

