-- ==== Sys2Proof/Config.lean ====
section
/-!
DEFINITION. The implementation parameters of spec 00_scope.md section 4, and the values the spec leaves open. A parameter
with a value in the spec is a plain constant. A value the spec leaves open is an opaque constant, of which no proof can see
anything. CORRECT_CONFIG (D18) and the schedule are launch data of `Machine.State`, so that every statement over all states
speaks of all of them.
-/

namespace Sys2Proof

/-- `EdgeEvent = Rising | Falling` (10_state.md R43). -/
inductive EdgeEvent where
  | rising
  | falling
deriving DecidableEq, Repr

/-- The Decoded Command record (10_state.md R22), with the default widths of R12. Log entry 11, DESIGN CHOICE. -/
structure Cmd where
  address  : Byte
  command  : Byte
  isRepeat : Bool
deriving DecidableEq, Repr

/-- `Outcome = Complete(Cmd) | Partial | Error` (10_state.md R44). -/
inductive DecodeOutcome where
  | complete (c : Cmd)
  | partialFrame
  | decodeError
deriving DecidableEq, Repr, Inhabited

/-- The result port's type (10_state.md R35): `NONE | U32 | CMDOPT | POSV`. -/
inductive Result where
  | nothing
  | u32 (v : Word)
  | cmdOpt (c : Option Cmd)
  | posV (p : Half)
deriving DecidableEq, Repr

namespace Config

/-- POS_MIN (R9). -/
def posMin : Half := 125

/-- POS_MAX (R9). -/
def posMax : Half := 625

/-- POS_MID (R10, decision D5 of the spec). -/
def posMid : Half := 375

/-- NOOP_CODE (R15), read by the host's reference program only. -/
def noopCode : Byte := 0

/-- SETTLE_MS (R15), read by the host's reference program only. -/
def settleMs : Millis := 1000

/-- POLL_MS (R15), read by the host's reference program only. -/
def pollMs : Millis := 100

/-- TICK_PERIOD in microseconds (R8): informative, no rule of the model reads it. -/
def tickPeriodMicros : Nat := 50

/-- PWM_PERIOD in milliseconds (R13): informative, no rule of the model reads it. -/
def pwmPeriodMillis : Nat := 20

/-- The level of the sense pin at reset: unspecified, a free draw of the launch (R33, R260, D28). Log entry 2. -/
opaque pinAtReset : Bool

/-- The initial state `d0` of the external pulse decoder, as a code (R14, D8). Log entry 3. -/
opaque decoderInit : Nat

/-- The external pulse decoder's total function `decode` (R14, D8) on coded decoder states. Log entry 3. -/
opaque decodeStep : Nat → EdgeEvent → Word → Nat × DecodeOutcome

/-- The start of the host program, a parameter of the run (R42, R192), as a code of the host's own state. Log entry 5. -/
opaque hostInit : Nat

/-- The next word of the host program, chosen on its own state and the result port (R192). Log entry 5. -/
opaque hostNext : Nat → Result → Option (Word × Nat)

/-- The free choice of the next agent, one per step taken (R42, R60, R231: any enabled step may run next). Log entry 1. -/
opaque freeChoice : Nat → Nat

end Config
end Sys2Proof
end

