-- ==== Sys2Proof/Syntax.lean ====
section
/-!
DEFINITION. The block's operations (spec 30_encoding.md R72, one constructor per row of opcode_table.json), and the lines of
the spec's assembler (R79, R80). An operation's operands have exactly the widths of their fields, so every term of `Instr` is
well formed; an assembler line carries plain numbers, and `WellFormed.lean` says which of them fit.
-/

namespace Sys2Proof

/-- The operations of the selector map (R72). -/
inductive Instr where
  | clkStart
  | clkTick
  | clkNow
  | cmdPublish (address command : Byte) (isRepeat : Bool)
  | cmdTake
  | edgeSample
  | edgeEnable
  | posSet (pos : Half)
  | posGet
  | posToggle
  | irqEnable
  | hostDelay (ms : Millis)
deriving DecidableEq, Repr

/-- One line of assembly (R79), the four pseudo-instructions of R80 among them, its operands as the numbers written. -/
inductive AsmLine where
  | clkStart
  | clkTick
  | clkNow
  | cmdPublish (addr cmd rep : Nat)
  | cmdTake
  | edgeSample
  | edgeEnable
  | posSet (pos : Nat)
  | posGet
  | posToggle
  | irqEnable
  | hostDelay (ms : Nat)
  | posRest
  | posFull
  | settle
  | poll
deriving DecidableEq, Repr

end Sys2Proof
end

