-- ==== Sys2Proof/WellFormed.lean ====
section
/-!
DEFINITION. What the spec checks of an operation before it runs: the assembler's operand bounds (30_encoding.md R79) and the
context that may issue it (R77, 44_control_host.md R193).
-/

namespace Sys2Proof

/-- The assembler accepts the line: every operand fits its field (R79). -/
def AsmLine.wellFormed : AsmLine → Bool
  | .cmdPublish addr cmd rep => decide (addr ≤ 255) && decide (cmd ≤ 255) && decide (rep ≤ 1)
  | .posSet pos => decide (pos ≤ 65535)
  | .hostDelay ms => decide (ms ≤ 268435455)
  | .clkStart | .clkTick | .clkNow | .cmdTake | .edgeSample | .edgeEnable | .posGet | .posToggle | .irqEnable => true
  | .posRest | .posFull | .settle | .poll => true

/-- The host may issue the operation: all but the two ISR bodies (R77, R193). -/
def Instr.hostMayIssue : Instr → Bool
  | .clkTick | .edgeSample => false
  | .clkStart | .clkNow | .cmdPublish _ _ _ | .cmdTake | .edgeEnable | .posSet _ | .posGet | .posToggle | .irqEnable
  | .hostDelay _ => true

end Sys2Proof
end

