-- ==== Sys2Proof/Decode.lean ====
section
/-!
DEFINITION. The operation word (spec 30_encoding.md): fields (R71), the decoder (R72 to R76, total on every 32-bit word), the
encoder (R72 to R75), and the assembler (R79, R80). Which context may issue a word is no part of its decoding: the host step
checks it after the decode (R78, `Machine/Host.lean`).
-/

namespace Sys2Proof

/-- `w[3:0]`, the selector (R71). -/
def wordSel (w : Word) : BitVec 4 := w.extractLsb' 0 4

/-- `w[31:4]`, the operand field (R71). -/
def wordOpnd (w : Word) : BitVec 28 := w.extractLsb' 4 28

/-- Why a word spells no operation (R76). -/
inductive DecodeReject where
  /-- SEL is 0x0, 0xD, 0xE or 0xF. -/
  | reservedSelector
  /-- A must-be-zero bit of R73 to R75 is set. -/
  | mustBeZero
deriving DecidableEq, Repr

/-- What a word spells: an operation, or nothing, by name. -/
inductive Decoded where
  | op (i : Instr)
  | rejected (why : DecodeReject)
deriving DecidableEq, Repr

/-- An operation without operand: `w[31:4]` must be zero (R75). -/
def decodeBare (w : Word) (i : Instr) : Decoded :=
  if wordOpnd w = 0#28 then .op i else .rejected .mustBeZero

/-- CMD_PUBLISH's operand (R73). -/
def decodePublish (w : Word) : Decoded :=
  if w.extractLsb' 21 11 = 0#11 then .op (.cmdPublish (w.extractLsb' 4 8) (w.extractLsb' 12 8) (w.getLsbD 20))
  else .rejected .mustBeZero

/-- POS_SET's operand (R74): every 16-bit value decodes. -/
def decodePosSet (w : Word) : Decoded :=
  if w.extractLsb' 20 12 = 0#12 then .op (.posSet (w.extractLsb' 4 16)) else .rejected .mustBeZero

/-- The decoder: the selector map (R72) and the operand layouts (R73 to R75). -/
def decode (w : Word) : Decoded :=
  match (wordSel w).toNat with
  | 0x1 => decodeBare w .clkStart
  | 0x2 => decodeBare w .clkTick
  | 0x3 => decodeBare w .clkNow
  | 0x4 => decodePublish w
  | 0x5 => decodeBare w .cmdTake
  | 0x6 => decodeBare w .edgeSample
  | 0x7 => decodeBare w .edgeEnable
  | 0x8 => decodePosSet w
  | 0x9 => decodeBare w .posGet
  | 0xA => decodeBare w .posToggle
  | 0xB => decodeBare w .irqEnable
  | 0xC => .op (.hostDelay (wordOpnd w))
  | _ => .rejected .reservedSelector

/-- The selector of an operation (R72). -/
def Instr.sel : Instr → BitVec 4
  | .clkStart => 0x1
  | .clkTick => 0x2
  | .clkNow => 0x3
  | .cmdPublish _ _ _ => 0x4
  | .cmdTake => 0x5
  | .edgeSample => 0x6
  | .edgeEnable => 0x7
  | .posSet _ => 0x8
  | .posGet => 0x9
  | .posToggle => 0xA
  | .irqEnable => 0xB
  | .hostDelay _ => 0xC

/-- The operand bits of an operation at their places in the word (R73 to R75). -/
def Instr.operandBits : Instr → Word
  | .cmdPublish a c r => ((BitVec.ofBool r).setWidth 32 <<< 20) ||| (c.setWidth 32 <<< 12) ||| (a.setWidth 32 <<< 4)
  | .posSet p => p.setWidth 32 <<< 4
  | .hostDelay ms => ms.setWidth 32 <<< 4
  | .clkStart | .clkTick | .clkNow | .cmdTake | .edgeSample | .edgeEnable | .posGet | .posToggle | .irqEnable => 0

/-- The operation word (R73 to R75). -/
def encode (i : Instr) : Word := i.operandBits ||| i.sel.setWidth 32

/-- The mnemonic of an operation (R72). -/
def Instr.mnemonic : Instr → String
  | .clkStart => "CLK_START"
  | .clkTick => "CLK_TICK"
  | .clkNow => "CLK_NOW"
  | .cmdPublish _ _ _ => "CMD_PUBLISH"
  | .cmdTake => "CMD_TAKE"
  | .edgeSample => "EDGE_SAMPLE"
  | .edgeEnable => "EDGE_ENABLE"
  | .posSet _ => "POS_SET"
  | .posGet => "POS_GET"
  | .posToggle => "POS_TOGGLE"
  | .irqEnable => "IRQ_ENABLE"
  | .hostDelay _ => "HOST_DELAY"

/-- One row of opcode_table.json: a word `w` is a word of the row when `w &&& mask = pattern`. -/
structure OpcodeRow where
  mnemonic : String
  pattern  : Word
  mask     : Word
deriving DecidableEq, Repr

/-- The word matches the row. -/
def OpcodeRow.covers (r : OpcodeRow) (w : Word) : Bool := (w &&& r.mask) == r.pattern

/-- opcode_table.json, row by row. -/
def opcodeTable : List OpcodeRow :=
  [ ⟨"CLK_START", 0x00000001, 0xFFFFFFFF⟩,
    ⟨"CLK_TICK", 0x00000002, 0xFFFFFFFF⟩,
    ⟨"CLK_NOW", 0x00000003, 0xFFFFFFFF⟩,
    ⟨"CMD_PUBLISH", 0x00000004, 0xFFE0000F⟩,
    ⟨"CMD_TAKE", 0x00000005, 0xFFFFFFFF⟩,
    ⟨"EDGE_SAMPLE", 0x00000006, 0xFFFFFFFF⟩,
    ⟨"EDGE_ENABLE", 0x00000007, 0xFFFFFFFF⟩,
    ⟨"POS_SET", 0x00000008, 0xFFF0000F⟩,
    ⟨"POS_GET", 0x00000009, 0xFFFFFFFF⟩,
    ⟨"POS_TOGGLE", 0x0000000A, 0xFFFFFFFF⟩,
    ⟨"IRQ_ENABLE", 0x0000000B, 0xFFFFFFFF⟩,
    ⟨"HOST_DELAY", 0x0000000C, 0x0000000F⟩ ]

/-- The operation of a line the assembler accepts; `none` where it refuses an operand (R79). The pseudo-instructions expand to
one operation each (R80). -/
def assemble (l : AsmLine) : Option Instr :=
  if l.wellFormed then
    some (match l with
      | .clkStart => .clkStart
      | .clkTick => .clkTick
      | .clkNow => .clkNow
      | .cmdPublish addr cmd rep => .cmdPublish (BitVec.ofNat 8 addr) (BitVec.ofNat 8 cmd) (rep == 1)
      | .cmdTake => .cmdTake
      | .edgeSample => .edgeSample
      | .edgeEnable => .edgeEnable
      | .posSet pos => .posSet (BitVec.ofNat 16 pos)
      | .posGet => .posGet
      | .posToggle => .posToggle
      | .irqEnable => .irqEnable
      | .hostDelay ms => .hostDelay (BitVec.ofNat 28 ms)
      | .posRest => .posSet Config.posMin
      | .posFull => .posSet Config.posMax
      | .settle => .hostDelay Config.settleMs
      | .poll => .hostDelay Config.pollMs)
  else none

/-- The instruction the decoder reads from a word of `nbits` bits, the bits above them zero (every word of the table has 32). -/
def decodeTableWord (nbits w : Nat) : Option Instr :=
  if nbits ≤ 32 ∧ w < 2 ^ nbits then
    match decode (BitVec.ofNat 32 w) with
    | .op i => some i
    | .rejected _ => none
  else none

end Sys2Proof
end

