-- ==== Sys2Proof/Machine/State.lean ====
section
/-!
DEFINITION. The machine's state (spec 10_state.md R20 to R37), the host agent's part of it (44_control_host.md R192), what the
spec calls parameters of a run and the model carries as plain data (R42: the host program, CORRECT_CONFIG, the schedule), the
reasons a step stops, and the state after reset (70_reset_and_hazards.md R260, R264).
-/

namespace Sys2Proof.Machine

/-- The fault codes of 60_exceptions.md R221. -/
inductive FaultCode where
  /-- 1: the host issued a word that spells no operation (R76). -/
  | undefinedOp
  /-- 2: the host issued CLK_TICK or EDGE_SAMPLE (R77). -/
  | illegalContext
  /-- 3: CLK_START with TMR_ON = 1 (R100). -/
  | startRepeated
  /-- 4: POS_SET outside the range (R165). -/
  | posRange
  /-- 5: TIMER_FIRE with TMR_PF = 1, when CORRECT_CONFIG = false (R101). -/
  | tickOverrun
  /-- 6: peripheral acquisition failed at boot (R244). -/
  | bootHalt
deriving DecidableEq, Repr

/-- The code's number (R221). -/
def FaultCode.number : FaultCode → Nat
  | .undefinedOp => 1
  | .illegalContext => 2
  | .startRepeated => 3
  | .posRange => 4
  | .tickOverrun => 5
  | .bootHalt => 6

/-- The events of the event history (R37), in the rule's order. -/
inductive Event where
  | timerFire
  | tick (v : Word)
  | now (v : Word)
  | publish (c : Cmd)
  | take (r : Option Cmd)
  | pinEdge (level : Bool)
  | edgeSampled (e : EdgeEvent) (ts : Word) (o : DecodeOutcome)
  | posWrite (p : Half)
  | start
  | edgeEnable
  | irqEnable
  | delay (ms : Millis)
  | fault (code : FaultCode) (info : Nat)
deriving DecidableEq, Repr

/-- The pulse decoder's state `DState` (R14, R34). Log entry 3: a code of the opaque library decoder's own state, or a script of
outcomes still to come, the decoder stub of 95_test_vectors.md. -/
inductive DState where
  | external (code : Nat)
  | scripted (outcomes : List DecodeOutcome)
deriving DecidableEq, Repr

/-- The points of the host's reference program: boot and self-test (R263 steps 3 to 6), then the main loop (R196). -/
inductive RefPoint where
  | clkStart
  | edgeEnable
  | irqEnable
  | selfTestMax
  | selfTestMin
  | take
  | decide
  | settle
  | rest
  | poll
deriving DecidableEq, Repr

/-- What the host will issue from here on (R192): nothing more; a word and then more; a choice made on the result port; the
reference program from one of its points; or the program that is the parameter of the run (R42), from one of its own states.
Log entry 5. -/
inductive HostProgram where
  | finished
  | issue (w : Word) (rest : HostProgram)
  | ifRes (r : Result) (yes no : HostProgram)
  | reference (point : RefPoint)
  | parameter (code : Nat)
deriving DecidableEq, Repr

/-- Whose step it is (R59): the host, the timer's period (R101), the two ISR dispatches (R226, R227), the sense pin (R140). -/
inductive Agent where
  | host
  | timerFire
  | timerIsr
  | pinChangeIsr
  | pinEdge
deriving DecidableEq, Repr

/-- The machine. The fields from `clk` to `hist` are the block's state record `S` (R20). -/
structure State where
  /-- CLK, the Clock Counter (R21). -/
  clk : Word
  /-- MB, the command mailbox slot (R23). -/
  mb : Option Cmd
  /-- POS, the Actuator Position (R24). -/
  pos : Half
  /-- CMP, the PWM compare register (R25). -/
  cmp : Half
  /-- TMR_ON, timer started (R27). -/
  tmrOn : Bool
  /-- TMR_IE, timer interrupt enable (R28). -/
  tmrIe : Bool
  /-- PC_IE, pin-change interrupt enable (R29). -/
  pcIe : Bool
  /-- GIE, global interrupt enable (R30). -/
  gie : Bool
  /-- TMR_PF, timer interrupt pending (R31). -/
  tmrPf : Bool
  /-- PC_PF, pin-change interrupt pending (R32). -/
  pcPf : Bool
  /-- PIN, the level of the sense pin (R33). -/
  pin : Bool
  /-- DEC, the pulse decoder's state (R34). -/
  dec : DState
  /-- RES, the result port (R35). -/
  res : Result
  /-- FAULT, the sticky fault record (R36). -/
  fault : Option FaultCode
  /-- HIST, the event history, oldest first (R37). -/
  hist : List Event
  /-- HPC, the host's count of operations issued (R192): state of the host. -/
  hpc : Nat
  /-- The host program from here on (R192): a parameter of the run (R42), consumed as the host issues. -/
  program : HostProgram
  /-- CORRECT_CONFIG (D18): a parameter of the run, which no step writes. Log entry 4. -/
  correctConfig : Bool
  /-- The model's own: the agents already chosen for the coming steps. Log entry 1. -/
  schedule : List Agent
  /-- The model's own: how many steps were taken, which numbers the free choices. Log entry 1. -/
  draws : Nat
deriving DecidableEq, Repr

/-- The reasons the machine stops. -/
inductive Fault where
  /-- Raised by `step` when FAULT holds `code`: no step of any agent is enabled (R36, R222). Safe: the spec's runs end here. -/
  | noStepEnabled (code : FaultCode)
deriving DecidableEq, Repr

/-- The reasons an operation has no meaning. -/
inductive Refusal where
  /-- Answered only by an arm of `exec` whose operation is not modelled yet; at present by none. Safe. -/
  | notModelled (mnemonic : String)
deriving DecidableEq, Repr

/-- The reset state of a launch that acquired its peripherals (R260, R264), given what the launch supplies (R42): the pin's level,
the decoder's initial state, CORRECT_CONFIG, the host program, and agents already chosen. -/
def State.launch (pin : Bool) (d0 : DState) (correct : Bool) (program : HostProgram) (schedule : List Agent) : State where
  clk := 0
  mb := none
  pos := Config.posMin
  cmp := Config.posMin
  tmrOn := false
  tmrIe := false
  pcIe := false
  gie := false
  tmrPf := false
  pcPf := false
  pin := pin
  dec := d0
  res := .nothing
  fault := none
  hist := []
  hpc := 0
  program := program
  correctConfig := correct
  schedule := schedule
  draws := 0

/-- The state after reset (R260): the unspecified pin level, the decoder's `d0` and the host program (R42, R262) are the opaque
constants of Config, CORRECT_CONFIG has its default, and no agent is chosen yet. Log entries 1 to 5. -/
def State.reset : State :=
  State.launch Config.pinAtReset (.external Config.decoderInit) true (.parameter Config.hostInit) []

end Sys2Proof.Machine
end

