-- ==== Sys2Proof/Machine/Ops.lean ====
section
/-!
DEFINITION. The named operations on the state: one per cell that an operation writes (10_state.md R46), the event log (R37), the
critical section (R54, R62), raising a fault (60_exceptions.md R222), and entering and leaving an interrupt service routine
(R228, R229). Every access is to a whole cell (20_memory.md R53, R56): the block has no addressed memory (R50).
-/

namespace Sys2Proof.Machine

/-- The two interrupt sources (R224). -/
inductive IrqSource where
  | tmr
  | pc
deriving DecidableEq, Repr

/-- `log E`: append to HIST (R18). -/
def State.log (s : State) (e : Event) : State := { s with hist := s.hist ++ [e] }

/-- `raise Fault(code)` with its info (R222): FAULT and HIST, and no other write. The one way any step raises.
The info is a natural number. Log entry 12, DESIGN CHOICE. -/
def State.raise (s : State) (code : FaultCode) (info : Nat) : State :=
  { s with fault := some code, hist := s.hist ++ [.fault code info] }

/-- A launch whose peripheral acquisition failed: the reset state in which the launch raised BOOT_HALT, info 0 (R221, R222, R244,
R264). Log entry 7, DEDUCED. -/
def State.bootHalted : State := State.reset.raise .bootHalt 0

/-- `CLK <- v`. -/
def State.setClk (s : State) (v : Word) : State := { s with clk := v }

/-- `MB <- m`. -/
def State.setMb (s : State) (m : Option Cmd) : State := { s with mb := m }

/-- `POS <- p`. -/
def State.setPos (s : State) (p : Half) : State := { s with pos := p }

/-- `CMP <- p`. -/
def State.setCmp (s : State) (p : Half) : State := { s with cmp := p }

/-- `DEC <- d`. -/
def State.setDec (s : State) (d : DState) : State := { s with dec := d }

/-- `RES <- r` (R82). -/
def State.setRes (s : State) (r : Result) : State := { s with res := r }

/-- `TMR_ON <- 1; TMR_IE <- 1` (R100). -/
def State.startTimer (s : State) : State := { s with tmrOn := true, tmrIe := true }

/-- `PC_IE <- 1` (R142). -/
def State.enablePinChange (s : State) : State := { s with pcIe := true }

/-- `GIE <- 1` (R190). -/
def State.enableInterrupts (s : State) : State := { s with gie := true }

/-- `TMR_PF <- 1` (R101). -/
def State.requestTimer (s : State) : State := { s with tmrPf := true }

/-- `PIN <- not PIN`, with the interrupt request when PC_IE = 1; a request already pending stays one request (R140). -/
def State.movePin (s : State) : State := { s with pin := !s.pin, pcPf := s.pcPf || s.pcIe }

/-- Interrupt entry (R229): the source's request is taken and interrupts are disabled; nothing else is saved. -/
def State.enterIsr (s : State) (src : IrqSource) : State :=
  { s with gie := false, tmrPf := s.tmrPf && src != .tmr, pcPf := s.pcPf && src != .pc }

/-- Return from interrupt (R229): interrupts are enabled again. -/
def State.leaveIsr (s : State) : State := { s with gie := true }

/-- A critical section (R54, R62): interrupts off, one access, and GIE as it was found (R30, D20). Log entry 13,
DEDUCED. -/
def State.criticalSection (s : State) (access : State → State) : State :=
  { access { s with gie := false } with gie := s.gie }

/-- The write of CMD_PUBLISH (R121), which EDGE_SAMPLE shares (R143). -/
def State.publish (s : State) (c : Cmd) : State := (s.criticalSection (·.setMb (some c))).log (.publish c)

/-- The writes of POS_SET to a position in range (R161), which POS_TOGGLE shares (R163): POS inside a critical section, then
CMP. -/
def State.commandPosition (s : State) (p : Half) : State :=
  ((s.criticalSection (·.setPos p)).setCmp p).log (.posWrite p)

/-- The host has issued an operation: HPC counts it and the program moves on (R192). -/
def State.hostAdvance (s : State) (rest : HostProgram) : State := { s with hpc := s.hpc + 1, program := rest }

/-- The model's own: the step's choice of agent is used up. Log entry 1, DESIGN CHOICE. -/
def State.advanceSchedule (s : State) : State := { s with schedule := s.schedule.tail, draws := s.draws + 1 }

/-- Continue from a next state; a stop stays a stop. -/
def mapNext (f : State → State) : Host.Outcome State Fault Refusal → Host.Outcome State Fault Refusal
  | .next s => .next (f s)
  | .fault r => .fault r
  | .refused r => .refused r

end Sys2Proof.Machine
end

