-- ==== Sys2Proof/Machine/Operands.lean ====
section
/-!
DEFINITION. The values an operation works on: the incremented count (40_tick_clock.md R103), elapsed time (R106), the edge event
(42_edge_sampler.md R141), the pulse decoder's answer (R144, 00_scope.md R14) and POS_TOGGLE's target (43_actuator.md R164).
-/

namespace Sys2Proof.Machine

/-- `wrap32(CLK + 1)` (R103). -/
def nextTick (v : Word) : Word := wrap32 (v.toNat + 1)

/-- `elapsed(t1, t2) = wrap32(t2 + 2^32 - t1)` (R106): the law for readers of timestamps. -/
def elapsed (t1 t2 : Word) : Word := wrap32 (t2.toNat + 2 ^ 32 - t1.toNat)

/-- The edge event, from the pin level read (R141). -/
def edgeEvent (pin : Bool) : EdgeEvent := if pin then .rising else .falling

/-- `decode(DEC, e, ts)` of the DECODER parameter (R14, R144). An external decoder answers by the opaque function of Config; a
scripted one is the stub of 95_test_vectors.md: its outcomes in order, then Partial. Log entry 3. -/
def decodePulse (d : DState) (e : EdgeEvent) (ts : Word) : DState × DecodeOutcome :=
  match d with
  | .external code => (.external (Config.decodeStep code e ts).1, (Config.decodeStep code e ts).2)
  | .scripted [] => (.scripted [], .partialFrame)
  | .scripted (o :: rest) => (.scripted rest, o)

end Sys2Proof.Machine
end

