-- ==== Sys2Proof/Machine/Flags.lean ====
section
/-!
DEFINITION. The block has no condition flags (spec 10_state.md R40), so no flag is computed and none is stored. This file holds
what stands in their place: the comparisons whose value the same step uses (R40), all unsigned (R17).
-/

namespace Sys2Proof.Machine

/-- `POS_MIN <= p and p <= POS_MAX` (43_actuator.md R161, R165). -/
def posInRange (p : Half) : Bool := decide (Config.posMin.toNat ≤ p.toNat) && decide (p.toNat ≤ Config.posMax.toNat)

/-- `p <= POS_MID`: unsigned and inclusive (R164). -/
def atOrBelowMid (p : Half) : Bool := decide (p.toNat ≤ Config.posMid.toNat)

/-- The end of the range POS_TOGGLE commands (R163, R164). -/
def toggleTarget (p : Half) : Half := if atOrBelowMid p then Config.posMax else Config.posMin

/-- The reference host acts on the command: neither a repeat nor the no-op code (44_control_host.md R196, R197). -/
def commandQualifies (c : Cmd) : Bool := !c.isRepeat && c.command != Config.noopCode

end Sys2Proof.Machine
end

