-- ==== Sys2Proof/Machine/Actuator.lean ====
section
/-!
DEFINITION. The PWM Actuator position Driver (spec 43_actuator.md): POS_SET, POS_GET and POS_TOGGLE.
-/

namespace Sys2Proof.Machine

/-- POS_SET (R161): commands a position in range; any other raises POS_RANGE and writes neither cell (R165). -/
def execPosSet (pos : Half) (s : State) : Host.Outcome State Fault Refusal :=
  .next (if posInRange pos then s.commandPosition pos else s.raise .posRange pos.toNat)

/-- POS_GET (R162): a read that clears nothing and logs nothing. -/
def execPosGet (s : State) : Host.Outcome State Fault Refusal :=
  .next (s.setRes (.posV s.pos))

/-- POS_TOGGLE (R163): commands the other end of the range. -/
def execPosToggle (s : State) : Host.Outcome State Fault Refusal :=
  .next ((s.commandPosition (toggleTarget s.pos)).setRes (.posV (toggleTarget s.pos)))

end Sys2Proof.Machine
end

