-- ==== Sys2Proof/Machine/CommandBuffer.lean ====
section
/-!
DEFINITION. The single-slot Command Buffer (spec 41_command_buffer.md): CMD_PUBLISH and CMD_TAKE.
-/

namespace Sys2Proof.Machine

/-- CMD_PUBLISH (R121): overwrites the slot, whatever it held. -/
def execCmdPublish (address command : Byte) (isRepeat : Bool) (s : State) : Host.Outcome State Fault Refusal :=
  .next (s.publish ⟨address, command, isRepeat⟩)

/-- CMD_TAKE (R122): an atomic exchange of the slot with `none`. -/
def execCmdTake (s : State) : Host.Outcome State Fault Refusal :=
  .next (((s.criticalSection (·.setMb none)).setRes (.cmdOpt s.mb)).log (.take s.mb))

end Sys2Proof.Machine
end

