-- ==== Sys2Proof/Machine/EdgeSampler.lean ====
section
/-!
DEFINITION. The Edge Sampler (spec 42_edge_sampler.md): EDGE_ENABLE, EDGE_SAMPLE and the environment event PIN_EDGE.
-/

namespace Sys2Proof.Machine

/-- EDGE_ENABLE (R142). -/
def execEdgeEnable (s : State) : Host.Outcome State Fault Refusal :=
  .next (s.enablePinChange.log .edgeEnable)

/-- Step 3 of EDGE_SAMPLE: only a complete decode publishes (R143, R145). -/
def deliver (s : State) (o : DecodeOutcome) : State :=
  match o with
  | .complete c => s.publish c
  | .partialFrame => s
  | .decodeError => s

/-- EDGE_SAMPLE (R143), the pin-change ISR's body: the timestamp is the Clock Counter now, the event is the pin's level now. -/
def execEdgeSample (s : State) : Host.Outcome State Fault Refusal :=
  .next ((deliver (s.setDec (decodePulse s.dec (edgeEvent s.pin) s.clk).1)
      (decodePulse s.dec (edgeEvent s.pin) s.clk).2).log
    (.edgeSampled (edgeEvent s.pin) s.clk (decodePulse s.dec (edgeEvent s.pin) s.clk).2))

/-- PIN_EDGE (R140): a transition on the sense pin. -/
def pinEdge (s : State) : State := s.movePin.log (.pinEdge (!s.pin))

end Sys2Proof.Machine
end

