-- ==== Sys2Proof/Machine/HostInterface.lean ====
section
/-!
DEFINITION. The two host-interface operations (spec 44_control_host.md): IRQ_ENABLE and HOST_DELAY.
-/

namespace Sys2Proof.Machine

/-- IRQ_ENABLE (R190). -/
def execIrqEnable (s : State) : Host.Outcome State Fault Refusal :=
  .next (s.enableInterrupts.log .irqEnable)

/-- HOST_DELAY (R191): no state of the block changes but HIST; the model has no time (D21). -/
def execHostDelay (ms : Millis) (s : State) : Host.Outcome State Fault Refusal :=
  .next (s.log (.delay ms))

end Sys2Proof.Machine
end

