-- ==== Sys2Proof/Machine/TickClock.lean ====
section
/-!
DEFINITION. The Tick Clock (spec 40_tick_clock.md): CLK_START, CLK_TICK, CLK_NOW and the environment event TIMER_FIRE.
-/

namespace Sys2Proof.Machine

/-- CLK_START (R100): starts the timer and enables its interrupt; a second one raises START_REPEATED. -/
def execClkStart (s : State) : Host.Outcome State Fault Refusal :=
  .next (if s.tmrOn then s.raise .startRepeated 0 else s.startTimer.log .start)

/-- CLK_TICK (R103), the timer ISR's body: the Clock Counter counts one tick and wraps silently. -/
def execClkTick (s : State) : Host.Outcome State Fault Refusal :=
  .next ((s.criticalSection (·.setClk (nextTick s.clk))).log (.tick (nextTick s.clk)))

/-- CLK_NOW (R104): the Clock Counter, all 32 bits read at once. -/
def execClkNow (s : State) : Host.Outcome State Fault Refusal :=
  .next ((s.setRes (.u32 s.clk)).log (.now s.clk))

/-- TIMER_FIRE (R101): the timer's period elapses. -/
def timerFire (s : State) : State :=
  if s.tmrPf then s.raise .tickOverrun s.clk.toNat else s.requestTimer.log .timerFire

end Sys2Proof.Machine
end

