-- ==== Sys2Proof/Machine/Dispatch.lean ====
section
/-!
DEFINITION. One arm per operation, each a direct call of the operation's own meaning. Whether the agent that reaches for an
operation may issue it is settled before (Host.lean: R78, R193; Interrupts.lean: R226, R227).
-/

namespace Sys2Proof.Machine

def exec (i : Instr) (s : State) : Host.Outcome State Fault Refusal :=
  match i with
  | .clkStart => Sys2Proof.Machine.execClkStart s
  | .clkTick => Sys2Proof.Machine.execClkTick s
  | .clkNow => Sys2Proof.Machine.execClkNow s
  | .cmdPublish address command isRepeat => Sys2Proof.Machine.execCmdPublish address command isRepeat s
  | .cmdTake => Sys2Proof.Machine.execCmdTake s
  | .edgeSample => Sys2Proof.Machine.execEdgeSample s
  | .edgeEnable => Sys2Proof.Machine.execEdgeEnable s
  | .posSet pos => Sys2Proof.Machine.execPosSet pos s
  | .posGet => Sys2Proof.Machine.execPosGet s
  | .posToggle => Sys2Proof.Machine.execPosToggle s
  | .irqEnable => Sys2Proof.Machine.execIrqEnable s
  | .hostDelay ms => Sys2Proof.Machine.execHostDelay ms s

end Sys2Proof.Machine
end

