-- ==== Sys2Proof/Machine/HostAgent.lean ====
section
/-!
DEFINITION. The host agent (spec 44_control_host.md R192, R193): the word it issues next, the checks on an issued word
(30_encoding.md R78), one host step, and the host's reference program (R263 steps 3 to 6, R196).
-/

namespace Sys2Proof.Machine

/-- The operation the reference program issues at a point, given the result port, and the point after it (R263, R201, R196). At
`decide` the loop has just taken the mailbox: a qualifying command starts the settle sequence, anything else goes to the poll
delay. Log entry 15, DEDUCED. -/
def RefPoint.issue (p : RefPoint) (res : Result) : Instr × RefPoint :=
  match p with
  | .clkStart => (.clkStart, .edgeEnable)
  | .edgeEnable => (.edgeEnable, .irqEnable)
  | .irqEnable => (.irqEnable, .selfTestMax)
  | .selfTestMax => (.posSet Config.posMax, .selfTestMin)
  | .selfTestMin => (.posSet Config.posMin, .take)
  | .take => (.cmdTake, .decide)
  | .decide =>
    match res with
    | .cmdOpt (some c) => if commandQualifies c then (.posToggle, .settle) else (.hostDelay Config.pollMs, .take)
    | .cmdOpt none => (.hostDelay Config.pollMs, .take)
    | .nothing => (.hostDelay Config.pollMs, .take)
    | .u32 _ => (.hostDelay Config.pollMs, .take)
    | .posV _ => (.hostDelay Config.pollMs, .take)
  | .settle => (.hostDelay Config.settleMs, .rest)
  | .rest => (.posSet Config.posMin, .poll)
  | .poll => (.hostDelay Config.pollMs, .take)

/-- The next word of a host program and what it will issue after it, chosen on the result port; `none` when the program has no
next word (R192). -/
def HostProgram.nextWord : HostProgram → Result → Option (Word × HostProgram)
  | .finished, _ => none
  | .issue w rest, _ => some (w, rest)
  | .ifRes r yes no, res => if res = r then yes.nextWord res else no.nextWord res
  | .reference p, res => some (encode (p.issue res).1, .reference (p.issue res).2)
  | .parameter code, res => (Config.hostNext code res).map fun next => (next.1, .parameter next.2)

/-- The program that issues the words of a listing in order and then no more (R192). -/
def HostProgram.ofWords : List Word → HostProgram
  | [] => .finished
  | w :: ws => .issue w (.ofWords ws)

/-- The result of the checks on an issued word (R78). -/
inductive Checked where
  | run (i : Instr)
  | raises (code : FaultCode)
deriving DecidableEq, Repr

/-- `decode_and_check` (R78): a word that spells no operation raises UNDEFINED_OP; then an ISR body raises ILLEGAL_CONTEXT. -/
def decodeAndCheck (w : Word) : Checked :=
  match decode w with
  | .rejected _ => .raises .undefinedOp
  | .op i => if i.hostMayIssue then .run i else .raises .illegalContext

/-- The host issues word `w` (R192): the checks, then the operation, as one step; HPC counts the word either way. Log entry 6,
DEDUCED. -/
def issueWord (w : Word) (rest : HostProgram) (s : State) : Host.Outcome State Fault Refusal :=
  match decodeAndCheck w with
  | .raises code => .next ((s.raise code w.toNat).hostAdvance rest)
  | .run i => mapNext (·.hostAdvance rest) (exec i s)

/-- One host step (R192). Without a next word the step is not enabled, and the scheduler never takes it. -/
def hostStep (s : State) : Host.Outcome State Fault Refusal :=
  match s.program.nextWord s.res with
  | some (w, rest) => issueWord w rest s
  | none => .next s

end Sys2Proof.Machine
end

