-- ==== Sys2Proof/Machine/Interrupts.lean ====
section
/-!
DEFINITION. The two ISR dispatches (spec 60_exceptions.md R226 to R229): each is one step that takes the request, runs the
operation that is the ISR's body with interrupts off, and returns.
-/

namespace Sys2Proof.Machine

/-- The operation that is the source's ISR body (R72, R226, R227). -/
def isrBody : IrqSource → Instr
  | .tmr => .clkTick
  | .pc => .edgeSample

/-- ISR dispatch (R226, R227): entry, body, return, with no step between (R228). -/
def dispatchIsr (src : IrqSource) (s : State) : Host.Outcome State Fault Refusal :=
  mapNext State.leaveIsr (exec (isrBody src) (s.enterIsr src))

end Sys2Proof.Machine
end

