-- ==== Sys2Proof/Machine/Scheduler.lean ====
section
/-!
DEFINITION. Whose step comes next (spec 20_memory.md R59, R60): the enabling conditions of every agent's step, the choice among
the enabled ones, and one step of an agent. The spec admits every order the enabling conditions allow (R60, R194, R230, R231):
the choice is the head of the state's schedule when that agent is enabled, and otherwise a free choice among the enabled.
-/

namespace Sys2Proof.Machine

/-- The enabling conditions: host (R192), TIMER_FIRE (R101), the ISR dispatches (R226, R227), PIN_EDGE (R140). All need
FAULT = none (R222). -/
def canStep (a : Agent) (s : State) : Bool :=
  s.fault.isNone &&
  match a with
  | .host => (s.program.nextWord s.res).isSome
  | .timerFire => s.tmrOn && (!s.correctConfig || !s.tmrPf)
  | .timerIsr => s.gie && s.tmrIe && s.tmrPf
  | .pinChangeIsr => s.gie && s.pcIe && s.pcPf
  | .pinEdge => true

/-- One step of an agent, taken only where `canStep` holds. -/
def agentStep (a : Agent) (s : State) : Host.Outcome State Fault Refusal :=
  match a with
  | .host => hostStep s
  | .timerFire => .next (timerFire s)
  | .timerIsr => dispatchIsr .tmr s
  | .pinChangeIsr => dispatchIsr .pc s
  | .pinEdge => .next (pinEdge s)

/-- Every agent. -/
def allAgents : List Agent := [.host, .timerFire, .timerIsr, .pinChangeIsr, .pinEdge]

/-- The agents whose step is enabled. -/
def enabledAgents (s : State) : List Agent := allAgents.filter (canStep · s)

/-- A free choice among the enabled agents (R60, R231). PIN_EDGE stands for the empty list, which occurs only after a fault. -/
def freePick (s : State) : Agent :=
  (enabledAgents s).getD (Config.freeChoice s.draws % (enabledAgents s).length) .pinEdge

/-- The agent that steps next. Log entry 1. -/
def pick (s : State) : Agent :=
  match s.schedule with
  | a :: _ => if canStep a s then a else freePick s
  | [] => freePick s

/-- The host is to issue `w` in the very next step, and then go on as before. -/
def State.placeWord (s : State) (w : Word) : State :=
  { s with program := .issue w s.program, schedule := .host :: s.schedule }

/-- The timer ISR is to run in the very next step: its request and its enables are set. -/
def State.placeTimerIsr (s : State) : State :=
  { s with gie := true, tmrIe := true, tmrPf := true, schedule := .timerIsr :: s.schedule }

/-- The pin-change ISR is to run in the very next step: its request and its enables are set. -/
def State.placePinChangeIsr (s : State) : State :=
  { s with gie := true, pcIe := true, pcPf := true, schedule := .pinChangeIsr :: s.schedule }

end Sys2Proof.Machine
end

