-- ==== Sys2Proof/Machine/Step.lean ====
section
/-!
DEFINITION. One step of the machine: the agent whose turn it is takes its step (20_memory.md R60). After a fault no step of any
agent is enabled, and the machine stops (60_exceptions.md R222).
-/

namespace Sys2Proof.Machine

/-- One step: stuck when FAULT is set, else the chosen agent's step, which uses up the choice. Log entries 1 and 10. -/
def step (s : State) : Host.Outcome State Fault Refusal :=
  match s.fault with
  | some code => .fault (.noStepEnabled code)
  | none => mapNext State.advanceSchedule (agentStep (pick s) s)

/-- The state in which the very next step runs the operation whose word is `w`: the host issues the word; the two operations that
only an ISR runs are run by their ISR. Log entry 8. -/
def State.withFetchWord (s : State) (nbits w : Nat) : State :=
  match decodeTableWord nbits w with
  | some .clkTick => s.placeTimerIsr
  | some .edgeSample => s.placePinChangeIsr
  | _ => s.placeWord (BitVec.ofNat 32 w)

end Sys2Proof.Machine
end

