-- ==== Sys2Proof/Safety.lean ====
section
/-!
DEFINITION. The terms claims about runs are stated in: the position's range (spec 43_actuator.md R167), what the event history
says of the cells (10_state.md R37; 40_tick_clock.md R102, R105; 41_command_buffer.md R123), the invariants of the interrupt
control elements and of the host's reference program, and infinite runs with the fairness of 60_exceptions.md R241.
-/

namespace Sys2Proof.Safety

open Sys2Proof.Machine

/-- POS is in range and CMP follows it (R26, R167). -/
def PositionInvariant (s : State) : Prop :=
  Config.posMin.toNat ≤ s.pos.toNat ∧ s.pos.toNat ≤ Config.posMax.toNat ∧ s.cmp = s.pos

/-- How many Tick events a history holds (R102). -/
def tickCount : List Event → Nat
  | [] => 0
  | .tick _ :: h => tickCount h + 1
  | _ :: h => tickCount h

/-- How many TimerFire events a history holds (R101). -/
def fireCount : List Event → Nat
  | [] => 0
  | .timerFire :: h => fireCount h + 1
  | _ :: h => fireCount h

/-- The mailbox after a history that found `m` in it: the last Publish since the last Take (R123). -/
def mailboxAfter (m : Option Cmd) : List Event → Option Cmd
  | [] => m
  | .publish c :: h => mailboxAfter (some c) h
  | .take _ :: h => mailboxAfter none h
  | _ :: h => mailboxAfter m h

/-- The commanded position after a history that found `p`: the last PosWrite (R161, R163). -/
def positionAfter (p : Half) : List Event → Half
  | [] => p
  | .posWrite q :: h => positionAfter q h
  | _ :: h => positionAfter p h

/-- No tick is skipped or duplicated (R61): every period that elapsed was counted once or is still pending. -/
def TicksAccounted (s : State) : Prop :=
  fireCount s.hist = tickCount s.hist + s.tmrPf.toNat

/-- Agent `a`'s step in `s` is the host issuing a word that runs `i` (R192). -/
def Issues (a : Agent) (s : State) (i : Instr) : Prop :=
  a = .host ∧ ∃ w rest, s.program.nextWord s.res = some (w, rest) ∧ decodeAndCheck w = .run i

/-- Points of the reference program at which the actuator is at rest: boot until the self-test moves it, and the loop but for the
settle sequence (R196, R198, R263). -/
def restingPoint : RefPoint → Bool
  | .clkStart | .edgeEnable | .irqEnable | .selfTestMax | .take | .decide | .poll => true
  | .selfTestMin | .settle | .rest => false

/-- The host runs its reference program, and at every resting point the commanded position is POS_MIN (R198). -/
def RestInvariant (s : State) : Prop :=
  ∃ p, s.program = .reference p ∧ (restingPoint p = true → s.pos = Config.posMin)

/-- The interrupt control elements agree: the timer's enable goes with its start (R100), and a request is pending only at a source
that was enabled (R101, R140, R142). -/
def ControlInvariant (s : State) : Prop :=
  s.tmrIe = s.tmrOn ∧ (s.tmrPf = true → s.tmrOn = true) ∧ (s.pcPf = true → s.pcIe = true)

/-- An infinite run (R60): at every point an agent whose step is enabled takes it. -/
def IsRun (states : Nat → State) (agents : Nat → Agent) : Prop :=
  ∀ k, canStep (agents k) (states k) = true ∧ agentStep (agents k) (states k) = .next (states (k + 1))

/-- Weak fairness toward every agent but PIN_EDGE (R241): a step that stays enabled from some point on is taken. `step` does
not impose it. Log entry 9, DESIGN CHOICE. -/
def WeaklyFair (states : Nat → State) (agents : Nat → Agent) : Prop :=
  ∀ a, a ≠ .pinEdge → ∀ k, ∃ m, k ≤ m ∧ (canStep a (states m) = false ∨ agents m = a)

end Sys2Proof.Safety
end

