-- ==== Sys2Proof/Certificates/Slice0/Obligations.lean ====
section
/-!
DEFINITION. The statements for the provers. A next state is written as the state before with the cells that change: every cell not
named there is unchanged, which is the operation's frame. The block has no addressed memory (spec 20_memory.md R50), so no frame
speaks of memory.
-/

open Sys2Proof Sys2Proof.Machine Sys2Proof.Safety

/-! ## Encoding (30_encoding.md) -/

/-- Decoding the word of any operation gives the operation back, at every value of every operand. -/
def Obligations.DecodeOfEncodeIsIdentity : Prop :=
  ∀ i : Instr, decode (encode i) = .op i

/-- A word that decodes is exactly the word of the operation it decodes to: no bit of it is ignored. -/
def Obligations.EncodeOfDecodeIsIdentity : Prop :=
  ∀ (w : Word) (i : Instr), decode w = .op i → encode i = w

/-- The decoder accepts exactly the words of the opcode table's rows, each as its row's operation. -/
def Obligations.DecodeAgreesWithOpcodeTable : Prop :=
  ∀ w : Word,
    (∀ i, decode w = .op i → ∀ r ∈ opcodeTable, (r.covers w = true ↔ r.mnemonic = i.mnemonic)) ∧
    (∀ why, decode w = .rejected why → ∀ r ∈ opcodeTable, r.covers w = false)

/-- The decoding algorithm applied to an issued word, check by check in the order R78 gives. -/
def Obligations.IssuedWordChecksInOrder : Prop :=
  ∀ w : Word,
    if wordSel w ∈ [0x0#4, 0xD#4, 0xE#4, 0xF#4] then decodeAndCheck w = .raises .undefinedOp
    else if wordSel w = 0x4#4 ∧ w.extractLsb' 21 11 ≠ 0#11 then decodeAndCheck w = .raises .undefinedOp
    else if wordSel w = 0x8#4 ∧ w.extractLsb' 20 12 ≠ 0#12 then decodeAndCheck w = .raises .undefinedOp
    else if wordSel w ∈ [0x1#4, 0x2#4, 0x3#4, 0x5#4, 0x6#4, 0x7#4, 0x9#4, 0xA#4, 0xB#4] ∧ w.extractLsb' 4 28 ≠ 0#28 then
      decodeAndCheck w = .raises .undefinedOp
    else if wordSel w ∈ [0x2#4, 0x6#4] then decodeAndCheck w = .raises .illegalContext
    else ∃ i, decodeAndCheck w = .run i ∧ i.sel = wordSel w ∧
      (∀ a c r, i = .cmdPublish a c r →
        a = w.extractLsb' 4 8 ∧ c = w.extractLsb' 12 8 ∧ r = decide (w.extractLsb' 20 1 = 1#1)) ∧
      (∀ p, i = .posSet p → p = w.extractLsb' 4 16) ∧
      (∀ ms, i = .hostDelay ms → ms = w.extractLsb' 4 28)

/-- A word with a reserved selector or a set must-be-zero bit spells no operation; issuing it raises UNDEFINED_OP and changes nothing
else of the block. That HPC counts the word is the model's reading (log entry 6). -/
def Obligations.ReservedWordRaisesUndefinedOp : Prop :=
  ∀ (w : Word) (rest : HostProgram) (s : State),
    (wordSel w ∈ [0x0#4, 0xD#4, 0xE#4, 0xF#4] ∨
      (wordSel w = 0x4#4 ∧ w.extractLsb' 21 11 ≠ 0#11) ∨
      (wordSel w = 0x8#4 ∧ w.extractLsb' 20 12 ≠ 0#12) ∨
      (wordSel w ∈ [0x1#4, 0x2#4, 0x3#4, 0x5#4, 0x6#4, 0x7#4, 0x9#4, 0xA#4, 0xB#4] ∧ w.extractLsb' 4 28 ≠ 0#28)) →
    (∀ i, decode w ≠ .op i) ∧
    issueWord w rest s = .next { s with fault := some .undefinedOp, hist := s.hist ++ [.fault .undefinedOp w.toNat],
                                        hpc := s.hpc + 1, program := rest }

/-- The two ISR bodies are legal words that the host may not issue: issuing one raises ILLEGAL_CONTEXT. -/
def Obligations.IsrBodyIssuedByHostFaults : Prop :=
  ∀ (i : Instr) (rest : HostProgram) (s : State), i = .clkTick ∨ i = .edgeSample →
    decode (encode i) = .op i ∧
    issueWord (encode i) rest s = .next { s with fault := some .illegalContext,
                                                 hist := s.hist ++ [.fault .illegalContext (encode i).toNat],
                                                 hpc := s.hpc + 1, program := rest }

/-- The spec's worked encodings and pseudo-instructions, word for word (R80, R81). -/
def Obligations.WorkedEncodings : Prop :=
  (assemble (.cmdPublish 0 1 0)).map encode = some 0x00001004 ∧
  (assemble (.cmdPublish 0 1 1)).map encode = some 0x00101004 ∧
  (assemble (.cmdPublish 0 0 0)).map encode = some 0x00000004 ∧
  (assemble (.cmdPublish 255 255 1)).map encode = some 0x001FFFF4 ∧
  (assemble (.posSet 125)).map encode = some 0x000007D8 ∧
  (assemble (.posSet 375)).map encode = some 0x00001778 ∧
  (assemble (.posSet 376)).map encode = some 0x00001788 ∧
  (assemble (.posSet 625)).map encode = some 0x00002718 ∧
  (assemble (.posSet 124)).map encode = some 0x000007C8 ∧ decode 0x000007C8 = .op (.posSet 124) ∧
  (∀ s, exec (.posSet 124) s = .next (s.raise .posRange 124)) ∧
  (assemble (.hostDelay 1000)).map encode = some 0x00003E8C ∧
  (assemble (.hostDelay 100)).map encode = some 0x0000064C ∧
  decodeAndCheck 0x00000000 = .raises .undefinedOp ∧
  decodeAndCheck 0x00000013 = .raises .undefinedOp ∧
  decodeAndCheck 0x00200004 = .raises .undefinedOp ∧
  decodeAndCheck 0x00000002 = .raises .illegalContext ∧
  assemble .posRest = some (.posSet 125) ∧ (assemble .posRest).map encode = some 0x000007D8 ∧
  assemble .posFull = some (.posSet 625) ∧ (assemble .posFull).map encode = some 0x00002718 ∧
  assemble .settle = some (.hostDelay 1000) ∧ (assemble .settle).map encode = some 0x00003E8C ∧
  assemble .poll = some (.hostDelay 100) ∧ (assemble .poll).map encode = some 0x0000064C

/-- The assembler gives each operand form the word of R79 where the operands fit, and refuses them where one does not. -/
def Obligations.AssemblerPlacesOperands : Prop :=
  (∀ addr cmd rep : Nat,
    (assemble (.cmdPublish addr cmd rep)).map encode =
      if addr ≤ 255 ∧ cmd ≤ 255 ∧ rep ≤ 1 then some (BitVec.ofNat 32 (rep * 2 ^ 20 + cmd * 2 ^ 12 + addr * 2 ^ 4 + 4)) else none) ∧
  (∀ pos : Nat, (assemble (.posSet pos)).map encode =
      if pos ≤ 65535 then some (BitVec.ofNat 32 (pos * 2 ^ 4 + 8)) else none) ∧
  (∀ ms : Nat, (assemble (.hostDelay ms)).map encode =
      if ms ≤ 268435455 then some (BitVec.ofNat 32 (ms * 2 ^ 4 + 12)) else none)

/-! ## Steps -/

/-- When the host's turn comes and its next word decodes to an operation the host may issue, the step is that operation, after which
HPC counts the word, the program moves on and the choice of agent is used up. That HPC and the program move on also where the
operation raises its own fault is the model's reading (log entry 6, from 95_test_vectors.md section 2); the schedule and its use are
the model's own (log entry 1). -/
def Obligations.HostStepRunsDecodedOperation : Prop :=
  ∀ (s : State) (l : List Agent) (w : Word) (rest : HostProgram) (i : Instr),
    s.fault = none → s.schedule = .host :: l → s.program.nextWord s.res = some (w, rest) →
    decode w = .op i → i.hostMayIssue = true →
    step s = mapNext (fun t => { t with hpc := t.hpc + 1, program := rest, schedule := t.schedule.tail, draws := t.draws + 1 })
      (exec i s)

/-- When the timer ISR's turn comes and it is enabled, the step is CLK_TICK between interrupt entry and return (R226, R229). -/
def Obligations.TimerIsrStepRunsClkTick : Prop :=
  ∀ (s : State) (l : List Agent), s.fault = none → s.schedule = .timerIsr :: l →
    s.gie = true → s.tmrIe = true → s.tmrPf = true →
    step s = mapNext (fun t => { t with gie := true, schedule := t.schedule.tail, draws := t.draws + 1 })
      (exec .clkTick { s with gie := false, tmrPf := false }) ∧
    step s = .next { s with tmrPf := false, clk := wrap32 (s.clk.toNat + 1),
                            hist := s.hist ++ [.tick (wrap32 (s.clk.toNat + 1))], schedule := l, draws := s.draws + 1 }

/-- When the pin-change ISR's turn comes and it is enabled, the step is EDGE_SAMPLE between interrupt entry and return. -/
def Obligations.PinChangeIsrStepRunsEdgeSample : Prop :=
  ∀ (s : State) (l : List Agent), s.fault = none → s.schedule = .pinChangeIsr :: l →
    s.gie = true → s.pcIe = true → s.pcPf = true →
    step s = mapNext (fun t => { t with gie := true, schedule := t.schedule.tail, draws := t.draws + 1 })
      (exec .edgeSample { s with gie := false, pcPf := false })

/-- TIMER_FIRE requests the timer interrupt; a period that elapses while one is pending is TICK_OVERRUN, and with CORRECT_CONFIG it
cannot elapse then. -/
def Obligations.TimerFireRequestsOrOverruns : Prop :=
  ∀ s : State,
    (canStep .timerFire s = true ↔
      s.fault = none ∧ s.tmrOn = true ∧ (s.correctConfig = false ∨ s.tmrPf = false)) ∧
    (s.tmrPf = false → agentStep .timerFire s = .next { s with tmrPf := true, hist := s.hist ++ [.timerFire] }) ∧
    (s.tmrPf = true → agentStep .timerFire s =
      .next { s with fault := some .tickOverrun, hist := s.hist ++ [.fault .tickOverrun s.clk.toNat] })

/-- PIN_EDGE moves the pin, and requests the interrupt exactly when PC_IE = 1; a pending request stays one request. -/
def Obligations.PinEdgeMovesPinAndRequests : Prop :=
  ∀ s : State,
    (canStep .pinEdge s = true ↔ s.fault = none) ∧
    (s.pcIe = true → agentStep .pinEdge s =
      .next { s with pin := !s.pin, pcPf := true, hist := s.hist ++ [.pinEdge (!s.pin)] }) ∧
    (s.pcIe = false → agentStep .pinEdge s = .next { s with pin := !s.pin, hist := s.hist ++ [.pinEdge (!s.pin)] })

/-- When the host and the ISR dispatches are enabled. -/
def Obligations.EnablingConditions : Prop :=
  ∀ s : State,
    (canStep .host s = true ↔ s.fault = none ∧ ∃ w rest, s.program.nextWord s.res = some (w, rest)) ∧
    (canStep .timerIsr s = true ↔ s.fault = none ∧ s.gie = true ∧ s.tmrIe = true ∧ s.tmrPf = true) ∧
    (canStep .pinChangeIsr s = true ↔ s.fault = none ∧ s.gie = true ∧ s.pcIe = true ∧ s.pcPf = true)

/-- Without a fault some agent's step is enabled, and the agent that steps is one whose step is. -/
def Obligations.ChosenAgentIsEnabled : Prop :=
  ∀ s : State, s.fault = none → canStep (pick s) s = true

/-- Any enabled step may run next: putting its agent at the head of the schedule makes it the one that runs (the schedule is the
model's own, log entry 1). -/
def Obligations.AnyEnabledStepMayRunNext : Prop :=
  ∀ (s : State) (a : Agent) (l : List Agent), canStep a s = true → s.schedule = a :: l →
    ∃ t, agentStep a s = .next t ∧ step s = .next { t with schedule := l, draws := s.draws + 1 }

/-- With both interrupts pending and enabled either ISR may run first and the other stays enabled; the edge's timestamp is CLK when
its handler runs. -/
def Obligations.PendingInterruptsRunInEitherOrder : Prop :=
  ∀ s : State, canStep .timerIsr s = true → canStep .pinChangeIsr s = true →
    (∃ t u, agentStep .timerIsr s = .next t ∧ canStep .pinChangeIsr t = true ∧ agentStep .pinChangeIsr t = .next u ∧
      ∃ es o, u.hist = s.hist ++ es ++ [.edgeSampled (edgeEvent s.pin) (wrap32 (s.clk.toNat + 1)) o]) ∧
    (∃ t u, agentStep .pinChangeIsr s = .next t ∧ canStep .timerIsr t = true ∧ agentStep .timerIsr t = .next u ∧
      ∃ es o, t.hist = s.hist ++ es ++ [.edgeSampled (edgeEvent s.pin) s.clk o] ∧ u.clk = wrap32 (s.clk.toNat + 1))

/-! ## Tick Clock (40_tick_clock.md) -/

/-- The first CLK_START starts the timer and enables its interrupt. -/
def Obligations.ClkStartStartsTimer : Prop :=
  ∀ s : State, s.tmrOn = false →
    exec .clkStart s = .next { s with tmrOn := true, tmrIe := true, hist := s.hist ++ [.start] }

/-- A CLK_START with the timer started raises START_REPEATED and changes nothing else. -/
def Obligations.RepeatedClkStartFaults : Prop :=
  ∀ s : State, s.tmrOn = true →
    exec .clkStart s = .next { s with fault := some .startRepeated, hist := s.hist ++ [.fault .startRepeated 0] }

/-- CLK_TICK adds one to CLK modulo 2^32, silently, and writes nothing but CLK and HIST. -/
def Obligations.ClkTickIncrementsWithWrap : Prop :=
  (∀ s : State, exec .clkTick s =
    .next { s with clk := wrap32 (s.clk.toNat + 1), hist := s.hist ++ [.tick (wrap32 (s.clk.toNat + 1))] }) ∧
  wrap32 ((0xFFFFFFFF : Word).toNat + 1) = 0 ∧ wrap32 ((41 : Word).toNat + 1) = 42

/-- CLK_NOW hands CLK to the host and leaves it as it is. -/
def Obligations.ClkNowReadsClock : Prop :=
  ∀ s : State, exec .clkNow s = .next { s with res := .u32 s.clk, hist := s.hist ++ [.now s.clk] }

/-- Over any number of steps of any agents CLK advances by the number of Tick events, modulo 2^32. -/
def Obligations.ClockAdvancesByTicks : Prop :=
  ∀ (k : Nat) (s t : State), core.run k s = .next t →
    ∃ es, t.hist = s.hist ++ es ∧ t.clk = wrap32 (s.clk.toNat + tickCount es)

/-- The wrap-safe difference of two readings is the number of ticks between them, when fewer than 2^32. -/
def Obligations.ElapsedCountsTicksAcrossWrap : Prop :=
  (∀ (v : Word) (n : Nat), n < 2 ^ 32 → (elapsed v (wrap32 (v.toNat + n))).toNat = n) ∧
  (∀ t1 t2 : Word, elapsed t1 t2 = wrap32 (t2.toNat + 2 ^ 32 - t1.toNat)) ∧
  elapsed 0xFFFFFFFE 0x00000001 = 3

/-- Each timer ISR dispatch adds exactly one Tick event to HIST, and no other step adds one. -/
def Obligations.OneTickPerTimerIsr : Prop :=
  ∀ s t : State, step s = .next t →
    tickCount t.hist = tickCount s.hist + (if pick s = .timerIsr then 1 else 0)

/-- Every step keeps the account of ticks: the periods that elapsed are the ticks counted and the one still pending. -/
def Obligations.TicksStayAccounted : Prop :=
  ∀ s t : State, TicksAccounted s → step s = .next t → TicksAccounted t

/-- With CORRECT_CONFIG no step ever raises TICK_OVERRUN. -/
def Obligations.CorrectConfigLosesNoTick : Prop :=
  ∀ s t : State, s.correctConfig = true → step s = .next t → t.correctConfig = true ∧ t.fault ≠ some .tickOverrun

/-- Once the timer is started and interrupts are enabled, every fair infinite run counts every number of further ticks: TIMER_FIRE and
the timer dispatch are each enabled again after the other. -/
def Obligations.TicksKeepComing : Prop :=
  (∀ (states : Nat → State) (agents : Nat → Agent) (k : Nat),
    IsRun states agents → WeaklyFair states agents →
    (states k).tmrOn = true → (states k).tmrIe = true → (states k).gie = true →
    ∀ n, ∃ m, k ≤ m ∧ tickCount (states m).hist = tickCount (states k).hist + n ∧
      (states m).clk = wrap32 ((states k).clk.toNat + n)) ∧
  (∀ s : State, s.fault = none → s.tmrOn = true → s.tmrIe = true → s.gie = true →
    (s.tmrPf = false → ∃ t, canStep .timerFire s = true ∧ agentStep .timerFire s = .next t ∧ canStep .timerIsr t = true) ∧
    (s.tmrPf = true → ∃ t, canStep .timerIsr s = true ∧ agentStep .timerIsr s = .next t ∧ canStep .timerFire t = true))

/-! ## Command Buffer (41_command_buffer.md) -/

/-- CMD_PUBLISH overwrites the slot, whatever it held. -/
def Obligations.CmdPublishOverwritesSlot : Prop :=
  ∀ (a c : Byte) (r : Bool) (s : State),
    exec (.cmdPublish a c r) s = .next { s with mb := some ⟨a, c, r⟩, hist := s.hist ++ [.publish ⟨a, c, r⟩] }

/-- CMD_TAKE returns the slot's content and clears it, in one step; an empty slot gives `none`. -/
def Obligations.CmdTakeReadsAndClears : Prop :=
  ∀ s : State, exec .cmdTake s = .next { s with mb := none, res := .cmdOpt s.mb, hist := s.hist ++ [.take s.mb] }

/-- Publishing A then B, then taking twice, gives B and then nothing. -/
def Obligations.LatestPublishWins : Prop :=
  ∀ (s : State) (a b : Cmd), ∃ s1 s2 s3 s4,
    exec (.cmdPublish a.address a.command a.isRepeat) s = .next s1 ∧
    exec (.cmdPublish b.address b.command b.isRepeat) s1 = .next s2 ∧
    exec .cmdTake s2 = .next s3 ∧ s3.res = .cmdOpt (some b) ∧
    exec .cmdTake s3 = .next s4 ∧ s4.res = .cmdOpt none ∧ s4.mb = none

/-- Over any number of steps of any agents, the slot is the last command published since the last take, and every take returned it. -/
def Obligations.TakeReturnsLastPublished : Prop :=
  ∀ (k : Nat) (s t : State), core.run k s = .next t →
    ∃ es, t.hist = s.hist ++ es ∧ t.mb = mailboxAfter s.mb es ∧
      ∀ es1 r es2, es = es1 ++ .take r :: es2 → r = mailboxAfter s.mb es1

/-! ## Edge Sampler (42_edge_sampler.md) -/

/-- EDGE_ENABLE enables the pin-change interrupt; a second one changes nothing but HIST. -/
def Obligations.EdgeEnableSetsPcIe : Prop :=
  ∀ s : State, exec .edgeEnable s = .next { s with pcIe := true, hist := s.hist ++ [.edgeEnable] }

/-- EDGE_SAMPLE hands the decoder the edge event of the pin's level and the clock's value, keeps the decoder's new state, and publishes
exactly on a complete decode. -/
def Obligations.EdgeSampleFeedsDecoder : Prop :=
  ∀ (s : State) (d : DState) (o : DecodeOutcome),
    decodePulse s.dec (if s.pin = true then .rising else .falling) s.clk = (d, o) →
    exec .edgeSample s = .next (match o with
      | .complete c => { s with dec := d, mb := some c,
                                hist := s.hist ++ [.publish c, .edgeSampled (if s.pin = true then .rising else .falling) s.clk o] }
      | .partialFrame => { s with dec := d,
                                  hist := s.hist ++ [.edgeSampled (if s.pin = true then .rising else .falling) s.clk o] }
      | .decodeError => { s with dec := d,
                                 hist := s.hist ++ [.edgeSampled (if s.pin = true then .rising else .falling) s.clk o] })

/-- Only EDGE_SAMPLE touches the decoder's state: every other step leaves it, and does the same whatever it is. -/
def Obligations.DecoderStateBelongsToEdgeSample : Prop :=
  ∀ (a : Agent) (s t : State) (d : DState), a ≠ .pinChangeIsr → agentStep a s = .next t →
    t.dec = s.dec ∧ agentStep a { s with dec := d } = .next { t with dec := d }

/-! ## Actuator Driver (43_actuator.md) -/

/-- POS_SET to a position in range writes POS and CMP with it. -/
def Obligations.PosSetCommandsPosition : Prop :=
  ∀ (p : Half) (s : State), 125 ≤ p.toNat → p.toNat ≤ 625 →
    exec (.posSet p) s = .next { s with pos := p, cmp := p, hist := s.hist ++ [.posWrite p] }

/-- POS_SET to a position outside the range raises POS_RANGE with the position and writes neither cell. -/
def Obligations.PosSetOutOfRangeFaults : Prop :=
  ∀ (p : Half) (s : State), p.toNat < 125 ∨ 625 < p.toNat →
    exec (.posSet p) s = .next { s with fault := some .posRange, hist := s.hist ++ [.fault .posRange p.toNat] }

/-- POS_GET hands POS to the host; it clears nothing and logs nothing. -/
def Obligations.PosGetReadsPosition : Prop :=
  ∀ s : State, exec .posGet s = .next { s with res := .posV s.pos }

/-- POS_TOGGLE commands POS_MAX from a position at or below 375 and POS_MIN from one above, and returns the new position. -/
def Obligations.PosToggleCommandsOtherEnd : Prop :=
  ∀ s : State,
    (s.pos.toNat ≤ 375 → exec .posToggle s =
      .next { s with pos := 625, cmp := 625, res := .posV 625, hist := s.hist ++ [.posWrite 625] }) ∧
    (375 < s.pos.toNat → exec .posToggle s =
      .next { s with pos := 125, cmp := 125, res := .posV 125, hist := s.hist ++ [.posWrite 125] })

/-- Every step keeps POS in its range and CMP equal to POS. -/
def Obligations.PositionStaysInRange : Prop :=
  ∀ s t : State, PositionInvariant s → step s = .next t → PositionInvariant t

/-- Over any number of steps of any agents, POS and CMP are the position of the last PosWrite event, or as they were. -/
def Obligations.PositionIsLastPosWrite : Prop :=
  ∀ (k : Nat) (s t : State), core.run k s = .next t →
    ∃ es, t.hist = s.hist ++ es ∧ t.pos = positionAfter s.pos es ∧ t.cmp = positionAfter s.cmp es

/-- No step reads CMP: with another value there the same step is taken, and CMP keeps that value or is written as before. -/
def Obligations.NoStepReadsCompareRegister : Prop :=
  ∀ (s t : State) (v : Half), step s = .next t →
    (step { s with cmp := v } = .next { t with cmp := v } ∧ t.cmp = s.cmp) ∨ step { s with cmp := v } = .next t

/-! ## Host interface (44_control_host.md) -/

/-- IRQ_ENABLE enables interrupts globally; a second one changes nothing but HIST. -/
def Obligations.IrqEnableSetsGie : Prop :=
  ∀ s : State, exec .irqEnable s = .next { s with gie := true, hist := s.hist ++ [.irqEnable] }

/-- HOST_DELAY writes HIST only, for every count of milliseconds. -/
def Obligations.HostDelayOnlyLogs : Prop :=
  ∀ (ms : Millis) (s : State), exec (.hostDelay ms) s = .next { s with hist := s.hist ++ [.delay ms] }

/-- The four value-returning operations put their value on the result port; every other operation leaves the port. -/
def Obligations.ResultPortTyping : Prop :=
  ∀ (i : Instr) (s : State), ∃ t, exec i s = .next t ∧
    t.res = match i with
      | .clkNow => .u32 s.clk
      | .cmdTake => .cmdOpt s.mb
      | .posGet => .posV s.pos
      | .posToggle => .posV t.pos
      | _ => s.res

/-- The reference loop's words, point by point; a taken command starts the settle sequence exactly when it is no repeat and not the
no-op code, and the sequence then runs whatever the result port holds. -/
def Obligations.ReferenceLoopFiltersCommands : Prop :=
  (∀ r, (HostProgram.reference .take).nextWord r = some (0x00000005, .reference .decide)) ∧
  (∀ c : Cmd, c.isRepeat = true ∨ c.command = 0 →
    (HostProgram.reference .decide).nextWord (.cmdOpt (some c)) = some (0x0000064C, .reference .take)) ∧
  (∀ c : Cmd, c.isRepeat = false → c.command ≠ 0 →
    (HostProgram.reference .decide).nextWord (.cmdOpt (some c)) = some (0x0000000A, .reference .settle)) ∧
  (HostProgram.reference .decide).nextWord (.cmdOpt none) = some (0x0000064C, .reference .take) ∧
  (∀ r, (HostProgram.reference .settle).nextWord r = some (0x00003E8C, .reference .rest) ∧
    (HostProgram.reference .rest).nextWord r = some (0x000007D8, .reference .poll) ∧
    (HostProgram.reference .poll).nextWord r = some (0x0000064C, .reference .take))

/-- The reference program never ends and, past its CLK_START, never faults: its next host step is a next state without a fault, at
another of its points. -/
def Obligations.ReferenceLoopNeverFaults : Prop :=
  ∀ (s : State) (p : RefPoint), s.fault = none → s.program = .reference p → p ≠ .clkStart →
    canStep .host s = true ∧
    ∃ t q, agentStep .host s = .next t ∧ t.fault = none ∧ t.program = .reference q ∧ q ≠ .clkStart

/-- Every step of every agent keeps the reference host's rest position: outside the settle sequence and the self-test POS is
POS_MIN. -/
def Obligations.ActuatorEndsCycleAtRest : Prop :=
  ∀ s t : State, RestInvariant s → step s = .next t → RestInvariant t

/-! ## Faults, interrupts and the access rules (60_exceptions.md, 10_state.md) -/

/-- After a fault no agent's step is enabled and the machine is stuck. -/
def Obligations.FaultStopsEveryAgent : Prop :=
  ∀ (s : State) (c : FaultCode), s.fault = some c →
    (∀ a, canStep a s = false) ∧ step s = .fault (.noStepEnabled c)

/-- A step that raises a fault writes FAULT and the Fault event and nothing else of the block (HPC, the program and the schedule move
on, log entries 1 and 6); the code and the info recorded are those of R221, and no ISR step raises. -/
def Obligations.FaultsArePrecise : Prop :=
  ∀ (a : Agent) (s t : State) (c : FaultCode), canStep a s = true → agentStep a s = .next t → t.fault = some c →
    ∃ info, t = { s with fault := some c, hist := s.hist ++ [.fault c info], hpc := t.hpc, program := t.program } ∧
      ((a = .timerFire ∧ c = .tickOverrun ∧ s.tmrPf = true ∧ info = s.clk.toNat) ∨
       (a = .host ∧ ∃ w rest, s.program.nextWord s.res = some (w, rest) ∧
         ((c = .undefinedOp ∧ info = w.toNat ∧ ∀ i, decode w ≠ .op i) ∨
          (c = .illegalContext ∧ info = w.toNat ∧ (decode w = .op .clkTick ∨ decode w = .op .edgeSample)) ∨
          (c = .startRepeated ∧ info = 0 ∧ decode w = .op .clkStart ∧ s.tmrOn = true) ∨
          (c = .posRange ∧ ∃ p, decode w = .op (.posSet p) ∧ info = p.toNat ∧ (p.toNat < 125 ∨ 625 < p.toNat)))))

/-- GIE is set by IRQ_ENABLE and by nothing else, every step leaves it otherwise as it found it, and without it no ISR runs. -/
def Obligations.GieIsSetByIrqEnableOnly : Prop :=
  State.reset.gie = false ∧
  (∀ s : State, s.gie = false → canStep .timerIsr s = false ∧ canStep .pinChangeIsr s = false) ∧
  (∀ (a : Agent) (s t : State), canStep a s = true → agentStep a s = .next t →
    (Issues a s .irqEnable ∧ t.gie = true) ∨ (¬ Issues a s .irqEnable ∧ t.gie = s.gie))

/-- The enables are set by their one operation and never cleared; each pending bit is set by its event and cleared by its dispatch, and
by nothing else. -/
def Obligations.InterruptControlWriters : Prop :=
  ∀ (a : Agent) (s t : State), canStep a s = true → agentStep a s = .next t →
    (t.tmrIe ≠ s.tmrIe → t.tmrIe = true ∧ Issues a s .clkStart) ∧
    (t.pcIe ≠ s.pcIe → t.pcIe = true ∧ Issues a s .edgeEnable) ∧
    (t.tmrPf ≠ s.tmrPf → (t.tmrPf = true ∧ a = .timerFire) ∨ (t.tmrPf = false ∧ a = .timerIsr)) ∧
    (t.pcPf ≠ s.pcPf → (t.pcPf = true ∧ a = .pinEdge ∧ s.pcIe = true) ∨ (t.pcPf = false ∧ a = .pinChangeIsr))

/-- The access matrix's writers, all 14 cells: a cell changes only by a step listed for it. -/
def Obligations.CellsHaveOnlyTheirWriters : Prop :=
  ∀ (a : Agent) (s t : State), canStep a s = true → agentStep a s = .next t →
    (t.clk ≠ s.clk → a = .timerIsr) ∧
    (t.mb ≠ s.mb → a = .pinChangeIsr ∨ Issues a s .cmdTake ∨ ∃ x y r, Issues a s (.cmdPublish x y r)) ∧
    (t.pos ≠ s.pos → Issues a s .posToggle ∨ ∃ p, Issues a s (.posSet p)) ∧
    (t.cmp ≠ s.cmp → Issues a s .posToggle ∨ ∃ p, Issues a s (.posSet p)) ∧
    (t.tmrOn ≠ s.tmrOn → Issues a s .clkStart) ∧
    (t.tmrIe ≠ s.tmrIe → Issues a s .clkStart) ∧
    (t.pcIe ≠ s.pcIe → Issues a s .edgeEnable) ∧
    (t.gie ≠ s.gie → Issues a s .irqEnable) ∧
    (t.tmrPf ≠ s.tmrPf → a = .timerFire ∨ a = .timerIsr) ∧
    (t.pcPf ≠ s.pcPf → a = .pinEdge ∨ a = .pinChangeIsr) ∧
    (t.pin ≠ s.pin → a = .pinEdge) ∧
    (t.dec ≠ s.dec → a = .pinChangeIsr) ∧
    (t.res ≠ s.res → Issues a s .clkNow ∨ Issues a s .cmdTake ∨ Issues a s .posGet ∨ Issues a s .posToggle) ∧
    (t.fault ≠ s.fault → (a = .host ∨ a = .timerFire) ∧ ∃ c info, t.fault = some c ∧ t.hist = s.hist ++ [.fault c info])

/-- No step reads HIST, and every step only appends to it. -/
def Obligations.NoStepReadsHistory : Prop :=
  ∀ (s t : State), step s = .next t →
    ∃ es, t.hist = s.hist ++ es ∧ ∀ h, step { s with hist := h } = .next { t with hist := h ++ es }

/-- Every step keeps the interrupt control elements in agreement. -/
def Obligations.ControlElementsStayConsistent : Prop :=
  ∀ s t : State, ControlInvariant s → step s = .next t → ControlInvariant t

/-! ## Reset and boot (70_reset_and_hazards.md) -/

/-- The reset values. The pin's level is whatever the launch draws and the decoder starts in its parameter `d0`. The state after
reset is such a launch. -/
def Obligations.ResetValues : Prop :=
  (∀ (pin : Bool) (d0 : DState) (correct : Bool) (program : HostProgram) (l : List Agent),
    (State.launch pin d0 correct program l).clk = 0 ∧ (State.launch pin d0 correct program l).mb = none ∧
    (State.launch pin d0 correct program l).pos = 125 ∧ (State.launch pin d0 correct program l).cmp = 125 ∧
    (State.launch pin d0 correct program l).tmrOn = false ∧ (State.launch pin d0 correct program l).tmrIe = false ∧
    (State.launch pin d0 correct program l).pcIe = false ∧ (State.launch pin d0 correct program l).gie = false ∧
    (State.launch pin d0 correct program l).tmrPf = false ∧ (State.launch pin d0 correct program l).pcPf = false ∧
    (State.launch pin d0 correct program l).pin = pin ∧ (State.launch pin d0 correct program l).dec = d0 ∧
    (State.launch pin d0 correct program l).res = .nothing ∧ (State.launch pin d0 correct program l).fault = none ∧
    (State.launch pin d0 correct program l).hist = []) ∧
  ∃ pin d0 program l, State.reset = State.launch pin d0 true program l

/-- A launch whose peripheral acquisition failed is the reset state with FAULT = BOOT_HALT, and no agent's step is enabled; one whose
acquisition succeeded has no fault. That HIST of the halted launch records the fault with info 0 is the model's reading of R221
beside R264 (log entry 7). -/
def Obligations.BootHaltIsStuck : Prop :=
  State.reset.fault = none ∧
  State.bootHalted = { State.reset with fault := some .bootHalt, hist := [.fault .bootHalt 0] } ∧
  (∀ a, canStep a State.bootHalted = false) ∧ step State.bootHalted = .fault (.noStepEnabled .bootHalt)

/-- The position, control and tick invariants hold of every launch from reset, whatever the pin, the decoder, CORRECT_CONFIG, the
program and the schedule; the rest invariant holds of every launch of the reference program. -/
def Obligations.InvariantsHoldAtReset : Prop :=
  ∀ (pin : Bool) (d0 : DState) (correct : Bool) (program : HostProgram) (l : List Agent),
    PositionInvariant (State.launch pin d0 correct program l) ∧
    ControlInvariant (State.launch pin d0 correct program l) ∧
    TicksAccounted (State.launch pin d0 correct program l) ∧
    RestInvariant (State.launch pin d0 correct (.reference .clkStart) l)
end

