-- ==== Sys2Proof/Laws/PerInstr.lean ====
section
/-!
SUPPORT. Statements about every operation as syntax, one lemma per constructor.
-/

namespace Sys2Proof.Laws.Selector

/-- The operation's word carries the selector of the selector map in bits 3:0 (spec 30_encoding.md R71, R72). -/
def Statement (i : Instr) : Prop := wordSel (encode i) = i.sel

/-- An operand whose low four bits are zero leaves the selector as it is. -/
theorem wordSel_or (x : Word) (v : BitVec 4) (hx : ∀ j, j < 4 → x.getLsbD j = false) :
    wordSel (x ||| v.setWidth 32) = v := by
  ext j hj
  have h := hx j hj
  rw [BitVec.getLsbD_eq_getElem (show j < 32 by omega)] at h
  simp [wordSel, h, show j < 32 by omega, BitVec.getLsbD_eq_getElem hj]

theorem clkStart : Statement .clkStart := rfl
theorem clkTick : Statement .clkTick := rfl
theorem clkNow : Statement .clkNow := rfl
theorem cmdPublish (a c : Byte) (r : Bool) : Statement (.cmdPublish a c r) :=
  wordSel_or _ _ fun j hj => by
    simp [Instr.operandBits, hj, show j < 20 by omega, show j < 12 by omega]
theorem cmdTake : Statement .cmdTake := rfl
theorem edgeSample : Statement .edgeSample := rfl
theorem edgeEnable : Statement .edgeEnable := rfl
theorem posSet (p : Half) : Statement (.posSet p) := wordSel_or _ _ fun j hj => by simp [Instr.operandBits, hj]
theorem posGet : Statement .posGet := rfl
theorem posToggle : Statement .posToggle := rfl
theorem irqEnable : Statement .irqEnable := rfl
theorem hostDelay (ms : Millis) : Statement (.hostDelay ms) := wordSel_or _ _ fun j hj => by simp [Instr.operandBits, hj]

end Sys2Proof.Laws.Selector
end

