-- ==== Sys2Proof/Laws/State.lean ====
section
/-!
SUPPORT. One lemma per field and per named update of the state, so that no later proof unfolds a record update. A critical
section's are stated of its access: only GIE is its own, and it is as it was found (spec 10_state.md R30).
-/

namespace Sys2Proof.Machine

variable (s : State)

/-! ### log -/

@[simp] theorem State.log_clk (e : Event) : (s.log e).clk = s.clk := rfl
@[simp] theorem State.log_mb (e : Event) : (s.log e).mb = s.mb := rfl
@[simp] theorem State.log_pos (e : Event) : (s.log e).pos = s.pos := rfl
@[simp] theorem State.log_cmp (e : Event) : (s.log e).cmp = s.cmp := rfl
@[simp] theorem State.log_tmrOn (e : Event) : (s.log e).tmrOn = s.tmrOn := rfl
@[simp] theorem State.log_tmrIe (e : Event) : (s.log e).tmrIe = s.tmrIe := rfl
@[simp] theorem State.log_pcIe (e : Event) : (s.log e).pcIe = s.pcIe := rfl
@[simp] theorem State.log_gie (e : Event) : (s.log e).gie = s.gie := rfl
@[simp] theorem State.log_tmrPf (e : Event) : (s.log e).tmrPf = s.tmrPf := rfl
@[simp] theorem State.log_pcPf (e : Event) : (s.log e).pcPf = s.pcPf := rfl
@[simp] theorem State.log_pin (e : Event) : (s.log e).pin = s.pin := rfl
@[simp] theorem State.log_dec (e : Event) : (s.log e).dec = s.dec := rfl
@[simp] theorem State.log_res (e : Event) : (s.log e).res = s.res := rfl
@[simp] theorem State.log_fault (e : Event) : (s.log e).fault = s.fault := rfl
@[simp] theorem State.log_hist (e : Event) : (s.log e).hist = s.hist ++ [e] := rfl
@[simp] theorem State.log_hpc (e : Event) : (s.log e).hpc = s.hpc := rfl
@[simp] theorem State.log_program (e : Event) : (s.log e).program = s.program := rfl
@[simp] theorem State.log_correctConfig (e : Event) : (s.log e).correctConfig = s.correctConfig := rfl
@[simp] theorem State.log_schedule (e : Event) : (s.log e).schedule = s.schedule := rfl
@[simp] theorem State.log_draws (e : Event) : (s.log e).draws = s.draws := rfl

/-! ### the halted launch -/

@[simp] theorem State.bootHalted_fault : State.bootHalted.fault = some .bootHalt := rfl
@[simp] theorem State.bootHalted_hist : State.bootHalted.hist = [.fault .bootHalt 0] := rfl

/-! ### raise -/

@[simp] theorem State.raise_clk (c : FaultCode) (n : Nat) : (s.raise c n).clk = s.clk := rfl
@[simp] theorem State.raise_mb (c : FaultCode) (n : Nat) : (s.raise c n).mb = s.mb := rfl
@[simp] theorem State.raise_pos (c : FaultCode) (n : Nat) : (s.raise c n).pos = s.pos := rfl
@[simp] theorem State.raise_cmp (c : FaultCode) (n : Nat) : (s.raise c n).cmp = s.cmp := rfl
@[simp] theorem State.raise_tmrOn (c : FaultCode) (n : Nat) : (s.raise c n).tmrOn = s.tmrOn := rfl
@[simp] theorem State.raise_tmrIe (c : FaultCode) (n : Nat) : (s.raise c n).tmrIe = s.tmrIe := rfl
@[simp] theorem State.raise_pcIe (c : FaultCode) (n : Nat) : (s.raise c n).pcIe = s.pcIe := rfl
@[simp] theorem State.raise_gie (c : FaultCode) (n : Nat) : (s.raise c n).gie = s.gie := rfl
@[simp] theorem State.raise_tmrPf (c : FaultCode) (n : Nat) : (s.raise c n).tmrPf = s.tmrPf := rfl
@[simp] theorem State.raise_pcPf (c : FaultCode) (n : Nat) : (s.raise c n).pcPf = s.pcPf := rfl
@[simp] theorem State.raise_pin (c : FaultCode) (n : Nat) : (s.raise c n).pin = s.pin := rfl
@[simp] theorem State.raise_dec (c : FaultCode) (n : Nat) : (s.raise c n).dec = s.dec := rfl
@[simp] theorem State.raise_res (c : FaultCode) (n : Nat) : (s.raise c n).res = s.res := rfl
@[simp] theorem State.raise_fault (c : FaultCode) (n : Nat) : (s.raise c n).fault = some c := rfl
@[simp] theorem State.raise_hist (c : FaultCode) (n : Nat) : (s.raise c n).hist = s.hist ++ [.fault c n] := rfl
@[simp] theorem State.raise_hpc (c : FaultCode) (n : Nat) : (s.raise c n).hpc = s.hpc := rfl
@[simp] theorem State.raise_program (c : FaultCode) (n : Nat) : (s.raise c n).program = s.program := rfl
@[simp] theorem State.raise_correctConfig (c : FaultCode) (n : Nat) : (s.raise c n).correctConfig = s.correctConfig := rfl
@[simp] theorem State.raise_schedule (c : FaultCode) (n : Nat) : (s.raise c n).schedule = s.schedule := rfl
@[simp] theorem State.raise_draws (c : FaultCode) (n : Nat) : (s.raise c n).draws = s.draws := rfl

/-! ### setClk -/

@[simp] theorem State.setClk_clk (v : Word) : (s.setClk v).clk = v := rfl
@[simp] theorem State.setClk_mb (v : Word) : (s.setClk v).mb = s.mb := rfl
@[simp] theorem State.setClk_pos (v : Word) : (s.setClk v).pos = s.pos := rfl
@[simp] theorem State.setClk_cmp (v : Word) : (s.setClk v).cmp = s.cmp := rfl
@[simp] theorem State.setClk_tmrOn (v : Word) : (s.setClk v).tmrOn = s.tmrOn := rfl
@[simp] theorem State.setClk_tmrIe (v : Word) : (s.setClk v).tmrIe = s.tmrIe := rfl
@[simp] theorem State.setClk_pcIe (v : Word) : (s.setClk v).pcIe = s.pcIe := rfl
@[simp] theorem State.setClk_gie (v : Word) : (s.setClk v).gie = s.gie := rfl
@[simp] theorem State.setClk_tmrPf (v : Word) : (s.setClk v).tmrPf = s.tmrPf := rfl
@[simp] theorem State.setClk_pcPf (v : Word) : (s.setClk v).pcPf = s.pcPf := rfl
@[simp] theorem State.setClk_pin (v : Word) : (s.setClk v).pin = s.pin := rfl
@[simp] theorem State.setClk_dec (v : Word) : (s.setClk v).dec = s.dec := rfl
@[simp] theorem State.setClk_res (v : Word) : (s.setClk v).res = s.res := rfl
@[simp] theorem State.setClk_fault (v : Word) : (s.setClk v).fault = s.fault := rfl
@[simp] theorem State.setClk_hist (v : Word) : (s.setClk v).hist = s.hist := rfl
@[simp] theorem State.setClk_hpc (v : Word) : (s.setClk v).hpc = s.hpc := rfl
@[simp] theorem State.setClk_program (v : Word) : (s.setClk v).program = s.program := rfl
@[simp] theorem State.setClk_correctConfig (v : Word) : (s.setClk v).correctConfig = s.correctConfig := rfl
@[simp] theorem State.setClk_schedule (v : Word) : (s.setClk v).schedule = s.schedule := rfl
@[simp] theorem State.setClk_draws (v : Word) : (s.setClk v).draws = s.draws := rfl

/-! ### setMb -/

@[simp] theorem State.setMb_clk (m : Option Cmd) : (s.setMb m).clk = s.clk := rfl
@[simp] theorem State.setMb_mb (m : Option Cmd) : (s.setMb m).mb = m := rfl
@[simp] theorem State.setMb_pos (m : Option Cmd) : (s.setMb m).pos = s.pos := rfl
@[simp] theorem State.setMb_cmp (m : Option Cmd) : (s.setMb m).cmp = s.cmp := rfl
@[simp] theorem State.setMb_tmrOn (m : Option Cmd) : (s.setMb m).tmrOn = s.tmrOn := rfl
@[simp] theorem State.setMb_tmrIe (m : Option Cmd) : (s.setMb m).tmrIe = s.tmrIe := rfl
@[simp] theorem State.setMb_pcIe (m : Option Cmd) : (s.setMb m).pcIe = s.pcIe := rfl
@[simp] theorem State.setMb_gie (m : Option Cmd) : (s.setMb m).gie = s.gie := rfl
@[simp] theorem State.setMb_tmrPf (m : Option Cmd) : (s.setMb m).tmrPf = s.tmrPf := rfl
@[simp] theorem State.setMb_pcPf (m : Option Cmd) : (s.setMb m).pcPf = s.pcPf := rfl
@[simp] theorem State.setMb_pin (m : Option Cmd) : (s.setMb m).pin = s.pin := rfl
@[simp] theorem State.setMb_dec (m : Option Cmd) : (s.setMb m).dec = s.dec := rfl
@[simp] theorem State.setMb_res (m : Option Cmd) : (s.setMb m).res = s.res := rfl
@[simp] theorem State.setMb_fault (m : Option Cmd) : (s.setMb m).fault = s.fault := rfl
@[simp] theorem State.setMb_hist (m : Option Cmd) : (s.setMb m).hist = s.hist := rfl
@[simp] theorem State.setMb_hpc (m : Option Cmd) : (s.setMb m).hpc = s.hpc := rfl
@[simp] theorem State.setMb_program (m : Option Cmd) : (s.setMb m).program = s.program := rfl
@[simp] theorem State.setMb_correctConfig (m : Option Cmd) : (s.setMb m).correctConfig = s.correctConfig := rfl
@[simp] theorem State.setMb_schedule (m : Option Cmd) : (s.setMb m).schedule = s.schedule := rfl
@[simp] theorem State.setMb_draws (m : Option Cmd) : (s.setMb m).draws = s.draws := rfl

/-! ### setPos -/

@[simp] theorem State.setPos_clk (p : Half) : (s.setPos p).clk = s.clk := rfl
@[simp] theorem State.setPos_mb (p : Half) : (s.setPos p).mb = s.mb := rfl
@[simp] theorem State.setPos_pos (p : Half) : (s.setPos p).pos = p := rfl
@[simp] theorem State.setPos_cmp (p : Half) : (s.setPos p).cmp = s.cmp := rfl
@[simp] theorem State.setPos_tmrOn (p : Half) : (s.setPos p).tmrOn = s.tmrOn := rfl
@[simp] theorem State.setPos_tmrIe (p : Half) : (s.setPos p).tmrIe = s.tmrIe := rfl
@[simp] theorem State.setPos_pcIe (p : Half) : (s.setPos p).pcIe = s.pcIe := rfl
@[simp] theorem State.setPos_gie (p : Half) : (s.setPos p).gie = s.gie := rfl
@[simp] theorem State.setPos_tmrPf (p : Half) : (s.setPos p).tmrPf = s.tmrPf := rfl
@[simp] theorem State.setPos_pcPf (p : Half) : (s.setPos p).pcPf = s.pcPf := rfl
@[simp] theorem State.setPos_pin (p : Half) : (s.setPos p).pin = s.pin := rfl
@[simp] theorem State.setPos_dec (p : Half) : (s.setPos p).dec = s.dec := rfl
@[simp] theorem State.setPos_res (p : Half) : (s.setPos p).res = s.res := rfl
@[simp] theorem State.setPos_fault (p : Half) : (s.setPos p).fault = s.fault := rfl
@[simp] theorem State.setPos_hist (p : Half) : (s.setPos p).hist = s.hist := rfl
@[simp] theorem State.setPos_hpc (p : Half) : (s.setPos p).hpc = s.hpc := rfl
@[simp] theorem State.setPos_program (p : Half) : (s.setPos p).program = s.program := rfl
@[simp] theorem State.setPos_correctConfig (p : Half) : (s.setPos p).correctConfig = s.correctConfig := rfl
@[simp] theorem State.setPos_schedule (p : Half) : (s.setPos p).schedule = s.schedule := rfl
@[simp] theorem State.setPos_draws (p : Half) : (s.setPos p).draws = s.draws := rfl

/-! ### setCmp -/

@[simp] theorem State.setCmp_clk (p : Half) : (s.setCmp p).clk = s.clk := rfl
@[simp] theorem State.setCmp_mb (p : Half) : (s.setCmp p).mb = s.mb := rfl
@[simp] theorem State.setCmp_pos (p : Half) : (s.setCmp p).pos = s.pos := rfl
@[simp] theorem State.setCmp_cmp (p : Half) : (s.setCmp p).cmp = p := rfl
@[simp] theorem State.setCmp_tmrOn (p : Half) : (s.setCmp p).tmrOn = s.tmrOn := rfl
@[simp] theorem State.setCmp_tmrIe (p : Half) : (s.setCmp p).tmrIe = s.tmrIe := rfl
@[simp] theorem State.setCmp_pcIe (p : Half) : (s.setCmp p).pcIe = s.pcIe := rfl
@[simp] theorem State.setCmp_gie (p : Half) : (s.setCmp p).gie = s.gie := rfl
@[simp] theorem State.setCmp_tmrPf (p : Half) : (s.setCmp p).tmrPf = s.tmrPf := rfl
@[simp] theorem State.setCmp_pcPf (p : Half) : (s.setCmp p).pcPf = s.pcPf := rfl
@[simp] theorem State.setCmp_pin (p : Half) : (s.setCmp p).pin = s.pin := rfl
@[simp] theorem State.setCmp_dec (p : Half) : (s.setCmp p).dec = s.dec := rfl
@[simp] theorem State.setCmp_res (p : Half) : (s.setCmp p).res = s.res := rfl
@[simp] theorem State.setCmp_fault (p : Half) : (s.setCmp p).fault = s.fault := rfl
@[simp] theorem State.setCmp_hist (p : Half) : (s.setCmp p).hist = s.hist := rfl
@[simp] theorem State.setCmp_hpc (p : Half) : (s.setCmp p).hpc = s.hpc := rfl
@[simp] theorem State.setCmp_program (p : Half) : (s.setCmp p).program = s.program := rfl
@[simp] theorem State.setCmp_correctConfig (p : Half) : (s.setCmp p).correctConfig = s.correctConfig := rfl
@[simp] theorem State.setCmp_schedule (p : Half) : (s.setCmp p).schedule = s.schedule := rfl
@[simp] theorem State.setCmp_draws (p : Half) : (s.setCmp p).draws = s.draws := rfl

/-! ### setDec -/

@[simp] theorem State.setDec_clk (d : DState) : (s.setDec d).clk = s.clk := rfl
@[simp] theorem State.setDec_mb (d : DState) : (s.setDec d).mb = s.mb := rfl
@[simp] theorem State.setDec_pos (d : DState) : (s.setDec d).pos = s.pos := rfl
@[simp] theorem State.setDec_cmp (d : DState) : (s.setDec d).cmp = s.cmp := rfl
@[simp] theorem State.setDec_tmrOn (d : DState) : (s.setDec d).tmrOn = s.tmrOn := rfl
@[simp] theorem State.setDec_tmrIe (d : DState) : (s.setDec d).tmrIe = s.tmrIe := rfl
@[simp] theorem State.setDec_pcIe (d : DState) : (s.setDec d).pcIe = s.pcIe := rfl
@[simp] theorem State.setDec_gie (d : DState) : (s.setDec d).gie = s.gie := rfl
@[simp] theorem State.setDec_tmrPf (d : DState) : (s.setDec d).tmrPf = s.tmrPf := rfl
@[simp] theorem State.setDec_pcPf (d : DState) : (s.setDec d).pcPf = s.pcPf := rfl
@[simp] theorem State.setDec_pin (d : DState) : (s.setDec d).pin = s.pin := rfl
@[simp] theorem State.setDec_dec (d : DState) : (s.setDec d).dec = d := rfl
@[simp] theorem State.setDec_res (d : DState) : (s.setDec d).res = s.res := rfl
@[simp] theorem State.setDec_fault (d : DState) : (s.setDec d).fault = s.fault := rfl
@[simp] theorem State.setDec_hist (d : DState) : (s.setDec d).hist = s.hist := rfl
@[simp] theorem State.setDec_hpc (d : DState) : (s.setDec d).hpc = s.hpc := rfl
@[simp] theorem State.setDec_program (d : DState) : (s.setDec d).program = s.program := rfl
@[simp] theorem State.setDec_correctConfig (d : DState) : (s.setDec d).correctConfig = s.correctConfig := rfl
@[simp] theorem State.setDec_schedule (d : DState) : (s.setDec d).schedule = s.schedule := rfl
@[simp] theorem State.setDec_draws (d : DState) : (s.setDec d).draws = s.draws := rfl

/-! ### setRes -/

@[simp] theorem State.setRes_clk (r : Result) : (s.setRes r).clk = s.clk := rfl
@[simp] theorem State.setRes_mb (r : Result) : (s.setRes r).mb = s.mb := rfl
@[simp] theorem State.setRes_pos (r : Result) : (s.setRes r).pos = s.pos := rfl
@[simp] theorem State.setRes_cmp (r : Result) : (s.setRes r).cmp = s.cmp := rfl
@[simp] theorem State.setRes_tmrOn (r : Result) : (s.setRes r).tmrOn = s.tmrOn := rfl
@[simp] theorem State.setRes_tmrIe (r : Result) : (s.setRes r).tmrIe = s.tmrIe := rfl
@[simp] theorem State.setRes_pcIe (r : Result) : (s.setRes r).pcIe = s.pcIe := rfl
@[simp] theorem State.setRes_gie (r : Result) : (s.setRes r).gie = s.gie := rfl
@[simp] theorem State.setRes_tmrPf (r : Result) : (s.setRes r).tmrPf = s.tmrPf := rfl
@[simp] theorem State.setRes_pcPf (r : Result) : (s.setRes r).pcPf = s.pcPf := rfl
@[simp] theorem State.setRes_pin (r : Result) : (s.setRes r).pin = s.pin := rfl
@[simp] theorem State.setRes_dec (r : Result) : (s.setRes r).dec = s.dec := rfl
@[simp] theorem State.setRes_res (r : Result) : (s.setRes r).res = r := rfl
@[simp] theorem State.setRes_fault (r : Result) : (s.setRes r).fault = s.fault := rfl
@[simp] theorem State.setRes_hist (r : Result) : (s.setRes r).hist = s.hist := rfl
@[simp] theorem State.setRes_hpc (r : Result) : (s.setRes r).hpc = s.hpc := rfl
@[simp] theorem State.setRes_program (r : Result) : (s.setRes r).program = s.program := rfl
@[simp] theorem State.setRes_correctConfig (r : Result) : (s.setRes r).correctConfig = s.correctConfig := rfl
@[simp] theorem State.setRes_schedule (r : Result) : (s.setRes r).schedule = s.schedule := rfl
@[simp] theorem State.setRes_draws (r : Result) : (s.setRes r).draws = s.draws := rfl

/-! ### startTimer -/

@[simp] theorem State.startTimer_clk : s.startTimer.clk = s.clk := rfl
@[simp] theorem State.startTimer_mb : s.startTimer.mb = s.mb := rfl
@[simp] theorem State.startTimer_pos : s.startTimer.pos = s.pos := rfl
@[simp] theorem State.startTimer_cmp : s.startTimer.cmp = s.cmp := rfl
@[simp] theorem State.startTimer_tmrOn : s.startTimer.tmrOn = true := rfl
@[simp] theorem State.startTimer_tmrIe : s.startTimer.tmrIe = true := rfl
@[simp] theorem State.startTimer_pcIe : s.startTimer.pcIe = s.pcIe := rfl
@[simp] theorem State.startTimer_gie : s.startTimer.gie = s.gie := rfl
@[simp] theorem State.startTimer_tmrPf : s.startTimer.tmrPf = s.tmrPf := rfl
@[simp] theorem State.startTimer_pcPf : s.startTimer.pcPf = s.pcPf := rfl
@[simp] theorem State.startTimer_pin : s.startTimer.pin = s.pin := rfl
@[simp] theorem State.startTimer_dec : s.startTimer.dec = s.dec := rfl
@[simp] theorem State.startTimer_res : s.startTimer.res = s.res := rfl
@[simp] theorem State.startTimer_fault : s.startTimer.fault = s.fault := rfl
@[simp] theorem State.startTimer_hist : s.startTimer.hist = s.hist := rfl
@[simp] theorem State.startTimer_hpc : s.startTimer.hpc = s.hpc := rfl
@[simp] theorem State.startTimer_program : s.startTimer.program = s.program := rfl
@[simp] theorem State.startTimer_correctConfig : s.startTimer.correctConfig = s.correctConfig := rfl
@[simp] theorem State.startTimer_schedule : s.startTimer.schedule = s.schedule := rfl
@[simp] theorem State.startTimer_draws : s.startTimer.draws = s.draws := rfl

/-! ### enablePinChange -/

@[simp] theorem State.enablePinChange_clk : s.enablePinChange.clk = s.clk := rfl
@[simp] theorem State.enablePinChange_mb : s.enablePinChange.mb = s.mb := rfl
@[simp] theorem State.enablePinChange_pos : s.enablePinChange.pos = s.pos := rfl
@[simp] theorem State.enablePinChange_cmp : s.enablePinChange.cmp = s.cmp := rfl
@[simp] theorem State.enablePinChange_tmrOn : s.enablePinChange.tmrOn = s.tmrOn := rfl
@[simp] theorem State.enablePinChange_tmrIe : s.enablePinChange.tmrIe = s.tmrIe := rfl
@[simp] theorem State.enablePinChange_pcIe : s.enablePinChange.pcIe = true := rfl
@[simp] theorem State.enablePinChange_gie : s.enablePinChange.gie = s.gie := rfl
@[simp] theorem State.enablePinChange_tmrPf : s.enablePinChange.tmrPf = s.tmrPf := rfl
@[simp] theorem State.enablePinChange_pcPf : s.enablePinChange.pcPf = s.pcPf := rfl
@[simp] theorem State.enablePinChange_pin : s.enablePinChange.pin = s.pin := rfl
@[simp] theorem State.enablePinChange_dec : s.enablePinChange.dec = s.dec := rfl
@[simp] theorem State.enablePinChange_res : s.enablePinChange.res = s.res := rfl
@[simp] theorem State.enablePinChange_fault : s.enablePinChange.fault = s.fault := rfl
@[simp] theorem State.enablePinChange_hist : s.enablePinChange.hist = s.hist := rfl
@[simp] theorem State.enablePinChange_hpc : s.enablePinChange.hpc = s.hpc := rfl
@[simp] theorem State.enablePinChange_program : s.enablePinChange.program = s.program := rfl
@[simp] theorem State.enablePinChange_correctConfig : s.enablePinChange.correctConfig = s.correctConfig := rfl
@[simp] theorem State.enablePinChange_schedule : s.enablePinChange.schedule = s.schedule := rfl
@[simp] theorem State.enablePinChange_draws : s.enablePinChange.draws = s.draws := rfl

/-! ### enableInterrupts -/

@[simp] theorem State.enableInterrupts_clk : s.enableInterrupts.clk = s.clk := rfl
@[simp] theorem State.enableInterrupts_mb : s.enableInterrupts.mb = s.mb := rfl
@[simp] theorem State.enableInterrupts_pos : s.enableInterrupts.pos = s.pos := rfl
@[simp] theorem State.enableInterrupts_cmp : s.enableInterrupts.cmp = s.cmp := rfl
@[simp] theorem State.enableInterrupts_tmrOn : s.enableInterrupts.tmrOn = s.tmrOn := rfl
@[simp] theorem State.enableInterrupts_tmrIe : s.enableInterrupts.tmrIe = s.tmrIe := rfl
@[simp] theorem State.enableInterrupts_pcIe : s.enableInterrupts.pcIe = s.pcIe := rfl
@[simp] theorem State.enableInterrupts_gie : s.enableInterrupts.gie = true := rfl
@[simp] theorem State.enableInterrupts_tmrPf : s.enableInterrupts.tmrPf = s.tmrPf := rfl
@[simp] theorem State.enableInterrupts_pcPf : s.enableInterrupts.pcPf = s.pcPf := rfl
@[simp] theorem State.enableInterrupts_pin : s.enableInterrupts.pin = s.pin := rfl
@[simp] theorem State.enableInterrupts_dec : s.enableInterrupts.dec = s.dec := rfl
@[simp] theorem State.enableInterrupts_res : s.enableInterrupts.res = s.res := rfl
@[simp] theorem State.enableInterrupts_fault : s.enableInterrupts.fault = s.fault := rfl
@[simp] theorem State.enableInterrupts_hist : s.enableInterrupts.hist = s.hist := rfl
@[simp] theorem State.enableInterrupts_hpc : s.enableInterrupts.hpc = s.hpc := rfl
@[simp] theorem State.enableInterrupts_program : s.enableInterrupts.program = s.program := rfl
@[simp] theorem State.enableInterrupts_correctConfig : s.enableInterrupts.correctConfig = s.correctConfig := rfl
@[simp] theorem State.enableInterrupts_schedule : s.enableInterrupts.schedule = s.schedule := rfl
@[simp] theorem State.enableInterrupts_draws : s.enableInterrupts.draws = s.draws := rfl

/-! ### requestTimer -/

@[simp] theorem State.requestTimer_clk : s.requestTimer.clk = s.clk := rfl
@[simp] theorem State.requestTimer_mb : s.requestTimer.mb = s.mb := rfl
@[simp] theorem State.requestTimer_pos : s.requestTimer.pos = s.pos := rfl
@[simp] theorem State.requestTimer_cmp : s.requestTimer.cmp = s.cmp := rfl
@[simp] theorem State.requestTimer_tmrOn : s.requestTimer.tmrOn = s.tmrOn := rfl
@[simp] theorem State.requestTimer_tmrIe : s.requestTimer.tmrIe = s.tmrIe := rfl
@[simp] theorem State.requestTimer_pcIe : s.requestTimer.pcIe = s.pcIe := rfl
@[simp] theorem State.requestTimer_gie : s.requestTimer.gie = s.gie := rfl
@[simp] theorem State.requestTimer_tmrPf : s.requestTimer.tmrPf = true := rfl
@[simp] theorem State.requestTimer_pcPf : s.requestTimer.pcPf = s.pcPf := rfl
@[simp] theorem State.requestTimer_pin : s.requestTimer.pin = s.pin := rfl
@[simp] theorem State.requestTimer_dec : s.requestTimer.dec = s.dec := rfl
@[simp] theorem State.requestTimer_res : s.requestTimer.res = s.res := rfl
@[simp] theorem State.requestTimer_fault : s.requestTimer.fault = s.fault := rfl
@[simp] theorem State.requestTimer_hist : s.requestTimer.hist = s.hist := rfl
@[simp] theorem State.requestTimer_hpc : s.requestTimer.hpc = s.hpc := rfl
@[simp] theorem State.requestTimer_program : s.requestTimer.program = s.program := rfl
@[simp] theorem State.requestTimer_correctConfig : s.requestTimer.correctConfig = s.correctConfig := rfl
@[simp] theorem State.requestTimer_schedule : s.requestTimer.schedule = s.schedule := rfl
@[simp] theorem State.requestTimer_draws : s.requestTimer.draws = s.draws := rfl

/-! ### movePin -/

@[simp] theorem State.movePin_clk : s.movePin.clk = s.clk := rfl
@[simp] theorem State.movePin_mb : s.movePin.mb = s.mb := rfl
@[simp] theorem State.movePin_pos : s.movePin.pos = s.pos := rfl
@[simp] theorem State.movePin_cmp : s.movePin.cmp = s.cmp := rfl
@[simp] theorem State.movePin_tmrOn : s.movePin.tmrOn = s.tmrOn := rfl
@[simp] theorem State.movePin_tmrIe : s.movePin.tmrIe = s.tmrIe := rfl
@[simp] theorem State.movePin_pcIe : s.movePin.pcIe = s.pcIe := rfl
@[simp] theorem State.movePin_gie : s.movePin.gie = s.gie := rfl
@[simp] theorem State.movePin_tmrPf : s.movePin.tmrPf = s.tmrPf := rfl
@[simp] theorem State.movePin_pcPf : s.movePin.pcPf = (s.pcPf || s.pcIe) := rfl
@[simp] theorem State.movePin_pin : s.movePin.pin = !s.pin := rfl
@[simp] theorem State.movePin_dec : s.movePin.dec = s.dec := rfl
@[simp] theorem State.movePin_res : s.movePin.res = s.res := rfl
@[simp] theorem State.movePin_fault : s.movePin.fault = s.fault := rfl
@[simp] theorem State.movePin_hist : s.movePin.hist = s.hist := rfl
@[simp] theorem State.movePin_hpc : s.movePin.hpc = s.hpc := rfl
@[simp] theorem State.movePin_program : s.movePin.program = s.program := rfl
@[simp] theorem State.movePin_correctConfig : s.movePin.correctConfig = s.correctConfig := rfl
@[simp] theorem State.movePin_schedule : s.movePin.schedule = s.schedule := rfl
@[simp] theorem State.movePin_draws : s.movePin.draws = s.draws := rfl

/-! ### enterIsr -/

@[simp] theorem State.enterIsr_clk (src : IrqSource) : (s.enterIsr src).clk = s.clk := rfl
@[simp] theorem State.enterIsr_mb (src : IrqSource) : (s.enterIsr src).mb = s.mb := rfl
@[simp] theorem State.enterIsr_pos (src : IrqSource) : (s.enterIsr src).pos = s.pos := rfl
@[simp] theorem State.enterIsr_cmp (src : IrqSource) : (s.enterIsr src).cmp = s.cmp := rfl
@[simp] theorem State.enterIsr_tmrOn (src : IrqSource) : (s.enterIsr src).tmrOn = s.tmrOn := rfl
@[simp] theorem State.enterIsr_tmrIe (src : IrqSource) : (s.enterIsr src).tmrIe = s.tmrIe := rfl
@[simp] theorem State.enterIsr_pcIe (src : IrqSource) : (s.enterIsr src).pcIe = s.pcIe := rfl
@[simp] theorem State.enterIsr_gie (src : IrqSource) : (s.enterIsr src).gie = false := rfl
@[simp] theorem State.enterIsr_tmrPf (src : IrqSource) : (s.enterIsr src).tmrPf = (s.tmrPf && src != .tmr) := rfl
@[simp] theorem State.enterIsr_pcPf (src : IrqSource) : (s.enterIsr src).pcPf = (s.pcPf && src != .pc) := rfl
@[simp] theorem State.enterIsr_pin (src : IrqSource) : (s.enterIsr src).pin = s.pin := rfl
@[simp] theorem State.enterIsr_dec (src : IrqSource) : (s.enterIsr src).dec = s.dec := rfl
@[simp] theorem State.enterIsr_res (src : IrqSource) : (s.enterIsr src).res = s.res := rfl
@[simp] theorem State.enterIsr_fault (src : IrqSource) : (s.enterIsr src).fault = s.fault := rfl
@[simp] theorem State.enterIsr_hist (src : IrqSource) : (s.enterIsr src).hist = s.hist := rfl
@[simp] theorem State.enterIsr_hpc (src : IrqSource) : (s.enterIsr src).hpc = s.hpc := rfl
@[simp] theorem State.enterIsr_program (src : IrqSource) : (s.enterIsr src).program = s.program := rfl
@[simp] theorem State.enterIsr_correctConfig (src : IrqSource) : (s.enterIsr src).correctConfig = s.correctConfig := rfl
@[simp] theorem State.enterIsr_schedule (src : IrqSource) : (s.enterIsr src).schedule = s.schedule := rfl
@[simp] theorem State.enterIsr_draws (src : IrqSource) : (s.enterIsr src).draws = s.draws := rfl

/-! ### leaveIsr -/

@[simp] theorem State.leaveIsr_clk : s.leaveIsr.clk = s.clk := rfl
@[simp] theorem State.leaveIsr_mb : s.leaveIsr.mb = s.mb := rfl
@[simp] theorem State.leaveIsr_pos : s.leaveIsr.pos = s.pos := rfl
@[simp] theorem State.leaveIsr_cmp : s.leaveIsr.cmp = s.cmp := rfl
@[simp] theorem State.leaveIsr_tmrOn : s.leaveIsr.tmrOn = s.tmrOn := rfl
@[simp] theorem State.leaveIsr_tmrIe : s.leaveIsr.tmrIe = s.tmrIe := rfl
@[simp] theorem State.leaveIsr_pcIe : s.leaveIsr.pcIe = s.pcIe := rfl
@[simp] theorem State.leaveIsr_gie : s.leaveIsr.gie = true := rfl
@[simp] theorem State.leaveIsr_tmrPf : s.leaveIsr.tmrPf = s.tmrPf := rfl
@[simp] theorem State.leaveIsr_pcPf : s.leaveIsr.pcPf = s.pcPf := rfl
@[simp] theorem State.leaveIsr_pin : s.leaveIsr.pin = s.pin := rfl
@[simp] theorem State.leaveIsr_dec : s.leaveIsr.dec = s.dec := rfl
@[simp] theorem State.leaveIsr_res : s.leaveIsr.res = s.res := rfl
@[simp] theorem State.leaveIsr_fault : s.leaveIsr.fault = s.fault := rfl
@[simp] theorem State.leaveIsr_hist : s.leaveIsr.hist = s.hist := rfl
@[simp] theorem State.leaveIsr_hpc : s.leaveIsr.hpc = s.hpc := rfl
@[simp] theorem State.leaveIsr_program : s.leaveIsr.program = s.program := rfl
@[simp] theorem State.leaveIsr_correctConfig : s.leaveIsr.correctConfig = s.correctConfig := rfl
@[simp] theorem State.leaveIsr_schedule : s.leaveIsr.schedule = s.schedule := rfl
@[simp] theorem State.leaveIsr_draws : s.leaveIsr.draws = s.draws := rfl

/-! ### publish -/

@[simp] theorem State.publish_clk (c : Cmd) : (s.publish c).clk = s.clk := rfl
@[simp] theorem State.publish_mb (c : Cmd) : (s.publish c).mb = some c := rfl
@[simp] theorem State.publish_pos (c : Cmd) : (s.publish c).pos = s.pos := rfl
@[simp] theorem State.publish_cmp (c : Cmd) : (s.publish c).cmp = s.cmp := rfl
@[simp] theorem State.publish_tmrOn (c : Cmd) : (s.publish c).tmrOn = s.tmrOn := rfl
@[simp] theorem State.publish_tmrIe (c : Cmd) : (s.publish c).tmrIe = s.tmrIe := rfl
@[simp] theorem State.publish_pcIe (c : Cmd) : (s.publish c).pcIe = s.pcIe := rfl
@[simp] theorem State.publish_gie (c : Cmd) : (s.publish c).gie = s.gie := rfl
@[simp] theorem State.publish_tmrPf (c : Cmd) : (s.publish c).tmrPf = s.tmrPf := rfl
@[simp] theorem State.publish_pcPf (c : Cmd) : (s.publish c).pcPf = s.pcPf := rfl
@[simp] theorem State.publish_pin (c : Cmd) : (s.publish c).pin = s.pin := rfl
@[simp] theorem State.publish_dec (c : Cmd) : (s.publish c).dec = s.dec := rfl
@[simp] theorem State.publish_res (c : Cmd) : (s.publish c).res = s.res := rfl
@[simp] theorem State.publish_fault (c : Cmd) : (s.publish c).fault = s.fault := rfl
@[simp] theorem State.publish_hist (c : Cmd) : (s.publish c).hist = s.hist ++ [.publish c] := rfl
@[simp] theorem State.publish_hpc (c : Cmd) : (s.publish c).hpc = s.hpc := rfl
@[simp] theorem State.publish_program (c : Cmd) : (s.publish c).program = s.program := rfl
@[simp] theorem State.publish_correctConfig (c : Cmd) : (s.publish c).correctConfig = s.correctConfig := rfl
@[simp] theorem State.publish_schedule (c : Cmd) : (s.publish c).schedule = s.schedule := rfl
@[simp] theorem State.publish_draws (c : Cmd) : (s.publish c).draws = s.draws := rfl

/-! ### commandPosition -/

@[simp] theorem State.commandPosition_clk (p : Half) : (s.commandPosition p).clk = s.clk := rfl
@[simp] theorem State.commandPosition_mb (p : Half) : (s.commandPosition p).mb = s.mb := rfl
@[simp] theorem State.commandPosition_pos (p : Half) : (s.commandPosition p).pos = p := rfl
@[simp] theorem State.commandPosition_cmp (p : Half) : (s.commandPosition p).cmp = p := rfl
@[simp] theorem State.commandPosition_tmrOn (p : Half) : (s.commandPosition p).tmrOn = s.tmrOn := rfl
@[simp] theorem State.commandPosition_tmrIe (p : Half) : (s.commandPosition p).tmrIe = s.tmrIe := rfl
@[simp] theorem State.commandPosition_pcIe (p : Half) : (s.commandPosition p).pcIe = s.pcIe := rfl
@[simp] theorem State.commandPosition_gie (p : Half) : (s.commandPosition p).gie = s.gie := rfl
@[simp] theorem State.commandPosition_tmrPf (p : Half) : (s.commandPosition p).tmrPf = s.tmrPf := rfl
@[simp] theorem State.commandPosition_pcPf (p : Half) : (s.commandPosition p).pcPf = s.pcPf := rfl
@[simp] theorem State.commandPosition_pin (p : Half) : (s.commandPosition p).pin = s.pin := rfl
@[simp] theorem State.commandPosition_dec (p : Half) : (s.commandPosition p).dec = s.dec := rfl
@[simp] theorem State.commandPosition_res (p : Half) : (s.commandPosition p).res = s.res := rfl
@[simp] theorem State.commandPosition_fault (p : Half) : (s.commandPosition p).fault = s.fault := rfl
@[simp] theorem State.commandPosition_hist (p : Half) : (s.commandPosition p).hist = s.hist ++ [.posWrite p] := rfl
@[simp] theorem State.commandPosition_hpc (p : Half) : (s.commandPosition p).hpc = s.hpc := rfl
@[simp] theorem State.commandPosition_program (p : Half) : (s.commandPosition p).program = s.program := rfl
@[simp] theorem State.commandPosition_correctConfig (p : Half) : (s.commandPosition p).correctConfig = s.correctConfig := rfl
@[simp] theorem State.commandPosition_schedule (p : Half) : (s.commandPosition p).schedule = s.schedule := rfl
@[simp] theorem State.commandPosition_draws (p : Half) : (s.commandPosition p).draws = s.draws := rfl

/-! ### hostAdvance -/

@[simp] theorem State.hostAdvance_clk (k : HostProgram) : (s.hostAdvance k).clk = s.clk := rfl
@[simp] theorem State.hostAdvance_mb (k : HostProgram) : (s.hostAdvance k).mb = s.mb := rfl
@[simp] theorem State.hostAdvance_pos (k : HostProgram) : (s.hostAdvance k).pos = s.pos := rfl
@[simp] theorem State.hostAdvance_cmp (k : HostProgram) : (s.hostAdvance k).cmp = s.cmp := rfl
@[simp] theorem State.hostAdvance_tmrOn (k : HostProgram) : (s.hostAdvance k).tmrOn = s.tmrOn := rfl
@[simp] theorem State.hostAdvance_tmrIe (k : HostProgram) : (s.hostAdvance k).tmrIe = s.tmrIe := rfl
@[simp] theorem State.hostAdvance_pcIe (k : HostProgram) : (s.hostAdvance k).pcIe = s.pcIe := rfl
@[simp] theorem State.hostAdvance_gie (k : HostProgram) : (s.hostAdvance k).gie = s.gie := rfl
@[simp] theorem State.hostAdvance_tmrPf (k : HostProgram) : (s.hostAdvance k).tmrPf = s.tmrPf := rfl
@[simp] theorem State.hostAdvance_pcPf (k : HostProgram) : (s.hostAdvance k).pcPf = s.pcPf := rfl
@[simp] theorem State.hostAdvance_pin (k : HostProgram) : (s.hostAdvance k).pin = s.pin := rfl
@[simp] theorem State.hostAdvance_dec (k : HostProgram) : (s.hostAdvance k).dec = s.dec := rfl
@[simp] theorem State.hostAdvance_res (k : HostProgram) : (s.hostAdvance k).res = s.res := rfl
@[simp] theorem State.hostAdvance_fault (k : HostProgram) : (s.hostAdvance k).fault = s.fault := rfl
@[simp] theorem State.hostAdvance_hist (k : HostProgram) : (s.hostAdvance k).hist = s.hist := rfl
@[simp] theorem State.hostAdvance_hpc (k : HostProgram) : (s.hostAdvance k).hpc = s.hpc + 1 := rfl
@[simp] theorem State.hostAdvance_program (k : HostProgram) : (s.hostAdvance k).program = k := rfl
@[simp] theorem State.hostAdvance_correctConfig (k : HostProgram) : (s.hostAdvance k).correctConfig = s.correctConfig := rfl
@[simp] theorem State.hostAdvance_schedule (k : HostProgram) : (s.hostAdvance k).schedule = s.schedule := rfl
@[simp] theorem State.hostAdvance_draws (k : HostProgram) : (s.hostAdvance k).draws = s.draws := rfl

/-! ### advanceSchedule -/

@[simp] theorem State.advanceSchedule_clk : s.advanceSchedule.clk = s.clk := rfl
@[simp] theorem State.advanceSchedule_mb : s.advanceSchedule.mb = s.mb := rfl
@[simp] theorem State.advanceSchedule_pos : s.advanceSchedule.pos = s.pos := rfl
@[simp] theorem State.advanceSchedule_cmp : s.advanceSchedule.cmp = s.cmp := rfl
@[simp] theorem State.advanceSchedule_tmrOn : s.advanceSchedule.tmrOn = s.tmrOn := rfl
@[simp] theorem State.advanceSchedule_tmrIe : s.advanceSchedule.tmrIe = s.tmrIe := rfl
@[simp] theorem State.advanceSchedule_pcIe : s.advanceSchedule.pcIe = s.pcIe := rfl
@[simp] theorem State.advanceSchedule_gie : s.advanceSchedule.gie = s.gie := rfl
@[simp] theorem State.advanceSchedule_tmrPf : s.advanceSchedule.tmrPf = s.tmrPf := rfl
@[simp] theorem State.advanceSchedule_pcPf : s.advanceSchedule.pcPf = s.pcPf := rfl
@[simp] theorem State.advanceSchedule_pin : s.advanceSchedule.pin = s.pin := rfl
@[simp] theorem State.advanceSchedule_dec : s.advanceSchedule.dec = s.dec := rfl
@[simp] theorem State.advanceSchedule_res : s.advanceSchedule.res = s.res := rfl
@[simp] theorem State.advanceSchedule_fault : s.advanceSchedule.fault = s.fault := rfl
@[simp] theorem State.advanceSchedule_hist : s.advanceSchedule.hist = s.hist := rfl
@[simp] theorem State.advanceSchedule_hpc : s.advanceSchedule.hpc = s.hpc := rfl
@[simp] theorem State.advanceSchedule_program : s.advanceSchedule.program = s.program := rfl
@[simp] theorem State.advanceSchedule_correctConfig : s.advanceSchedule.correctConfig = s.correctConfig := rfl
@[simp] theorem State.advanceSchedule_schedule : s.advanceSchedule.schedule = s.schedule.tail := rfl
@[simp] theorem State.advanceSchedule_draws : s.advanceSchedule.draws = s.draws + 1 := rfl

/-! ### criticalSection -/

@[simp] theorem State.criticalSection_clk (access : State → State) : (s.criticalSection access).clk = (access { s with gie := false }).clk := rfl
@[simp] theorem State.criticalSection_mb (access : State → State) : (s.criticalSection access).mb = (access { s with gie := false }).mb := rfl
@[simp] theorem State.criticalSection_pos (access : State → State) : (s.criticalSection access).pos = (access { s with gie := false }).pos := rfl
@[simp] theorem State.criticalSection_cmp (access : State → State) : (s.criticalSection access).cmp = (access { s with gie := false }).cmp := rfl
@[simp] theorem State.criticalSection_tmrOn (access : State → State) : (s.criticalSection access).tmrOn = (access { s with gie := false }).tmrOn := rfl
@[simp] theorem State.criticalSection_tmrIe (access : State → State) : (s.criticalSection access).tmrIe = (access { s with gie := false }).tmrIe := rfl
@[simp] theorem State.criticalSection_pcIe (access : State → State) : (s.criticalSection access).pcIe = (access { s with gie := false }).pcIe := rfl
@[simp] theorem State.criticalSection_gie (access : State → State) : (s.criticalSection access).gie = s.gie := rfl
@[simp] theorem State.criticalSection_tmrPf (access : State → State) : (s.criticalSection access).tmrPf = (access { s with gie := false }).tmrPf := rfl
@[simp] theorem State.criticalSection_pcPf (access : State → State) : (s.criticalSection access).pcPf = (access { s with gie := false }).pcPf := rfl
@[simp] theorem State.criticalSection_pin (access : State → State) : (s.criticalSection access).pin = (access { s with gie := false }).pin := rfl
@[simp] theorem State.criticalSection_dec (access : State → State) : (s.criticalSection access).dec = (access { s with gie := false }).dec := rfl
@[simp] theorem State.criticalSection_res (access : State → State) : (s.criticalSection access).res = (access { s with gie := false }).res := rfl
@[simp] theorem State.criticalSection_fault (access : State → State) : (s.criticalSection access).fault = (access { s with gie := false }).fault := rfl
@[simp] theorem State.criticalSection_hist (access : State → State) : (s.criticalSection access).hist = (access { s with gie := false }).hist := rfl
@[simp] theorem State.criticalSection_hpc (access : State → State) : (s.criticalSection access).hpc = (access { s with gie := false }).hpc := rfl
@[simp] theorem State.criticalSection_program (access : State → State) : (s.criticalSection access).program = (access { s with gie := false }).program := rfl
@[simp] theorem State.criticalSection_correctConfig (access : State → State) : (s.criticalSection access).correctConfig = (access { s with gie := false }).correctConfig := rfl
@[simp] theorem State.criticalSection_schedule (access : State → State) : (s.criticalSection access).schedule = (access { s with gie := false }).schedule := rfl
@[simp] theorem State.criticalSection_draws (access : State → State) : (s.criticalSection access).draws = (access { s with gie := false }).draws := rfl

end Sys2Proof.Machine
end

