-- ==== Sys2Proof/Laws/Step.lean ====
section
/-!
SUPPORT. What the shared operations can do, said once: continuing from an outcome, the answer of `exec`, of a host step, of an ISR
dispatch, of an agent's step and of `step`.
-/

namespace Sys2Proof.Machine

@[simp] theorem mapNext_next (f : State → State) (s : State) : mapNext f (.next s) = .next (f s) := rfl

/-- A next state of `mapNext` comes from a next state. -/
theorem mapNext_eq_next {f : State → State} {o : Host.Outcome State Fault Refusal} {t : State} (h : mapNext f o = .next t) :
    ∃ u, o = .next u ∧ t = f u := by
  cases o <;> simp_all [mapNext]

/-- Every operation answers a next state, in every state (the block's faults are recorded in FAULT, R222). -/
theorem exec_total (i : Instr) (s : State) : ∃ t, exec i s = .next t := by
  cases i <;> exact ⟨_, rfl⟩

/-- A host step that is enabled issues the program's next word. -/
theorem hostStep_of_nextWord {s : State} {w : Word} {rest : HostProgram} (h : s.program.nextWord s.res = some (w, rest)) :
    hostStep s = issueWord w rest s := by
  simp [hostStep, h]

/-- Issuing a word either records the fault of its checks or runs the operation it spells; HPC counts it. -/
theorem issueWord_cases {w : Word} {rest : HostProgram} {s t : State} (h : issueWord w rest s = .next t) :
    (∃ c, decodeAndCheck w = .raises c ∧ t = (s.raise c w.toNat).hostAdvance rest) ∨
    (∃ i u, decodeAndCheck w = .run i ∧ exec i s = .next u ∧ t = u.hostAdvance rest) := by
  unfold issueWord at h
  split at h
  · next c hc => exact .inl ⟨c, hc, (Host.Outcome.next.inj h).symm⟩
  · next i hi =>
    obtain ⟨u, hu, rfl⟩ := mapNext_eq_next h
    exact .inr ⟨i, u, hi, hu, rfl⟩

/-- A word the host may run decodes to an operation the host may issue (R78, R193). -/
theorem decodeAndCheck_run {w : Word} {i : Instr} (h : decodeAndCheck w = .run i) :
    decode w = .op i ∧ i.hostMayIssue = true := by
  unfold decodeAndCheck at h
  split at h
  · cases h
  · split at h <;> simp_all

/-- The checks raise one of two codes (R78). -/
theorem decodeAndCheck_raises {w : Word} {c : FaultCode} (h : decodeAndCheck w = .raises c) :
    c = .undefinedOp ∨ c = .illegalContext := by
  unfold decodeAndCheck at h
  split at h
  · cases h; exact .inl rfl
  · split at h <;> cases h; exact .inr rfl

/-- An agent's enabled step: what it does, agent by agent. -/
theorem agentStep_cases {a : Agent} {s t : State} (he : canStep a s = true) (h : agentStep a s = .next t) :
    (a = .host ∧ ∃ w rest, s.program.nextWord s.res = some (w, rest) ∧ issueWord w rest s = .next t) ∨
    (a = .timerFire ∧ t = timerFire s) ∨
    (a = .timerIsr ∧ ∃ u, exec .clkTick (s.enterIsr .tmr) = .next u ∧ t = u.leaveIsr) ∨
    (a = .pinChangeIsr ∧ ∃ u, exec .edgeSample (s.enterIsr .pc) = .next u ∧ t = u.leaveIsr) ∨
    (a = .pinEdge ∧ t = pinEdge s) := by
  cases a with
  | host =>
    simp only [canStep, Bool.and_eq_true, Option.isSome_iff_exists] at he
    obtain ⟨-, ⟨w, rest⟩, hw⟩ := he
    exact .inl ⟨rfl, w, rest, hw, by rwa [agentStep, hostStep_of_nextWord hw] at h⟩
  | timerFire => exact .inr (.inl ⟨rfl, (Host.Outcome.next.inj h).symm⟩)
  | timerIsr => exact .inr (.inr (.inl ⟨rfl, mapNext_eq_next h⟩))
  | pinChangeIsr => exact .inr (.inr (.inr (.inl ⟨rfl, mapNext_eq_next h⟩)))
  | pinEdge => exact .inr (.inr (.inr (.inr ⟨rfl, (Host.Outcome.next.inj h).symm⟩)))

/-- Without a fault a step is the chosen agent's, and uses up the choice. -/
theorem step_of_running {s : State} (h : s.fault = none) :
    step s = mapNext State.advanceSchedule (agentStep (pick s) s) := by
  unfold step
  split
  · simp_all
  · rfl

/-- An ISR dispatch is the body's operation between entry and return. -/
theorem dispatchIsr_cases {src : IrqSource} {s t : State} (h : dispatchIsr src s = .next t) :
    ∃ u, exec (isrBody src) (s.enterIsr src) = .next u ∧ t = u.leaveIsr :=
  mapNext_eq_next h

/-- Delivering an outcome publishes on a complete decode and does nothing else (R143, R145). -/
theorem deliver_cases (s : State) (o : DecodeOutcome) :
    (∃ c, o = .complete c ∧ deliver s o = s.publish c) ∨ ((∀ c, o ≠ .complete c) ∧ deliver s o = s) := by
  cases o with
  | complete c => exact .inl ⟨c, rfl, rfl⟩
  | partialFrame => exact .inr ⟨by simp, rfl⟩
  | decodeError => exact .inr ⟨by simp, rfl⟩

/-- A step that answers a next state is the chosen agent's, in a state without a fault, and uses up the choice. -/
theorem step_cases {s t : State} (h : step s = .next t) :
    s.fault = none ∧ ∃ u, agentStep (pick s) s = .next u ∧ t = u.advanceSchedule := by
  unfold step at h
  split at h
  · cases h
  · next hf => exact ⟨hf, mapNext_eq_next h⟩

end Sys2Proof.Machine
end

