-- ==== Sys2Proof/Machine/Assembler.lean ====
section
/-!
DEFINITION. The spec's assembler as text (30_encoding.md R79, R80): one operation per line, a mnemonic and then its operands
separated by commas, each decimal or `0x` hexadecimal; `;` starts a comment. Reading is structural on lists of characters. What R79
leaves open (white space, letter case) is log entry 14, DESIGN CHOICE.
-/

namespace Sys2Proof.Machine

/-- White space inside a line. -/
def isBlank (c : Char) : Bool := c == ' ' || c == '\t'

/-- The text without the white space at its ends. -/
def trimBlanks (text : List Char) : List Char := ((text.dropWhile isBlank).reverse.dropWhile isBlank).reverse

/-- The pieces of a text between its commas. -/
def splitCommas : List Char → List (List Char)
  | [] => [[]]
  | c :: rest =>
    if c == ',' then [] :: splitCommas rest
    else
      match splitCommas rest with
      | piece :: more => (c :: piece) :: more
      | [] => [[c]]

/-- The value of a digit in either case. -/
def digitValue (c : Char) : Option Nat :=
  if '0'.toNat ≤ c.toNat ∧ c.toNat ≤ '9'.toNat then some (c.toNat - '0'.toNat)
  else if 'a'.toNat ≤ c.toNat ∧ c.toNat ≤ 'f'.toNat then some (c.toNat - 'a'.toNat + 10)
  else if 'A'.toNat ≤ c.toNat ∧ c.toNat ≤ 'F'.toNat then some (c.toNat - 'A'.toNat + 10)
  else none

/-- The number that digits of a base spell after the value `acc`. -/
def digitsFrom (base acc : Nat) : List Char → Option Nat
  | [] => some acc
  | c :: rest =>
    match digitValue c with
    | some d => if d < base then digitsFrom base (acc * base + d) rest else none
    | none => none

/-- An operand: decimal, or hexadecimal after `0x` (R79). -/
def readNumber (text : List Char) : Option Nat :=
  match text with
  | [] => none
  | ['0', 'x'] => none
  | '0' :: 'x' :: digits => digitsFrom 16 0 digits
  | digits => digitsFrom 10 0 digits

/-- All of the operands, or none if one is no number. -/
def readNumbers : List (List Char) → Option (List Nat)
  | [] => some []
  | piece :: more =>
    match readNumber (trimBlanks piece), readNumbers more with
    | some n, some ns => some (n :: ns)
    | _, _ => none

/-- The forms of R79 and the pseudo-instructions of R80, by mnemonic and operands. -/
def asmForm (mnemonic : List Char) (operands : List Nat) : Option AsmLine :=
  match operands with
  | [] =>
    if mnemonic = "CLK_START".toList then some .clkStart
    else if mnemonic = "CLK_TICK".toList then some .clkTick
    else if mnemonic = "CLK_NOW".toList then some .clkNow
    else if mnemonic = "CMD_TAKE".toList then some .cmdTake
    else if mnemonic = "EDGE_SAMPLE".toList then some .edgeSample
    else if mnemonic = "EDGE_ENABLE".toList then some .edgeEnable
    else if mnemonic = "POS_GET".toList then some .posGet
    else if mnemonic = "POS_TOGGLE".toList then some .posToggle
    else if mnemonic = "IRQ_ENABLE".toList then some .irqEnable
    else if mnemonic = "POS_REST".toList then some .posRest
    else if mnemonic = "POS_FULL".toList then some .posFull
    else if mnemonic = "SETTLE".toList then some .settle
    else if mnemonic = "POLL".toList then some .poll
    else none
  | [n] =>
    if mnemonic = "POS_SET".toList then some (.posSet n)
    else if mnemonic = "HOST_DELAY".toList then some (.hostDelay n)
    else none
  | [addr, cmd, rep] => if mnemonic = "CMD_PUBLISH".toList then some (.cmdPublish addr cmd rep) else none
  | _ => none

/-- One line of a listing: no operation (a blank or comment line), one, or `none` where the assembler refuses it (R79). -/
def readLine (line : List Char) : Option (List Instr) :=
  let text := trimBlanks (line.takeWhile (· != ';'))
  let mnemonic := text.takeWhile (fun c => !isBlank c)
  let operands := trimBlanks (text.dropWhile (fun c => !isBlank c))
  if text.isEmpty then some []
  else
    match readNumbers (if operands.isEmpty then [] else splitCommas operands) with
    | some ns => ((asmForm mnemonic ns).bind assemble).map ([·])
    | none => none

/-- The words of a listing, line by line; `none` where the assembler refuses a line. -/
def assembleListing : List (List Char) → Option (List Word)
  | [] => some []
  | line :: more =>
    match readLine line, assembleListing more with
    | some is, some ws => some (is.map encode ++ ws)
    | _, _ => none

end Sys2Proof.Machine
end

