-- ==== Sys2Proof/Tests/Slice0.lean ====
section
/-!
SUPPORT. The model's own tests. Words are written out bit by bit from the rows of spec/opcode_table.json (30_encoding.md R72 to
R75); expected results are the vectors of 95_test_vectors.md, whose identifiers the comments give. At the end stands, for every
statement with hypotheses, a concrete state that meets them.
-/

namespace Sys2Proof.Tests

open Sys2Proof.Machine Sys2Proof.Safety

/-- The state an outcome goes on to. -/
def after : Host.Outcome State Fault Refusal → Option State
  | .next s => some s
  | .fault _ => none
  | .refused _ => none

/-- The reset state of a launch with the pin low, the scripted decoder and no program. -/
def start : State := State.launch false (.scripted []) true .finished []

/-- The timer started, both sources and interrupts enabled. -/
def running : State := { start with tmrOn := true, tmrIe := true, pcIe := true, gie := true }

/-- Command 1 of the spec's vectors, `c(0,1,0)`. -/
def cmd1 : Cmd := ⟨0, 1, false⟩

/-- `s` with the host about to issue `w`. -/
def issuing (s : State) (w : Word) : State := { s with program := .issue w .finished, schedule := [.host] }

/-! ### Decoding: one word for every row of the opcode table -/

theorem test_decode_clkStart : decode 0b00000000000000000000000000000001 = .op .clkStart := by decide
theorem test_decode_clkTick : decode 0b00000000000000000000000000000010 = .op .clkTick := by decide
theorem test_decode_clkNow : decode 0b00000000000000000000000000000011 = .op .clkNow := by decide
-- zero, r = 1, command 0x25, address 0xC3, SEL 4
theorem test_decode_cmdPublish :
    decode 0b00000000000100100101110000110100 = .op (.cmdPublish 0xC3 0x25 true) := by decide
theorem test_decode_cmdTake : decode 0b00000000000000000000000000000101 = .op .cmdTake := by decide
theorem test_decode_edgeSample : decode 0b00000000000000000000000000000110 = .op .edgeSample := by decide
theorem test_decode_edgeEnable : decode 0b00000000000000000000000000000111 = .op .edgeEnable := by decide
-- zero, pos 625 = 0b1001110001, SEL 8
theorem test_decode_posSet : decode 0b00000000000000000010011100011000 = .op (.posSet 625) := by decide
theorem test_decode_posGet : decode 0b00000000000000000000000000001001 = .op .posGet := by decide
theorem test_decode_posToggle : decode 0b00000000000000000000000000001010 = .op .posToggle := by decide
theorem test_decode_irqEnable : decode 0b00000000000000000000000000001011 = .op .irqEnable := by decide
-- V-CT5: every operand bit set
theorem test_decode_hostDelay : decode 0b11111111111111111111111111111100 = .op (.hostDelay 268435455) := by decide
-- V-CT7, V-TC17, V-CB8, V-AD12
theorem test_decode_rejects :
    decode 0x0000000D = .rejected .reservedSelector ∧ decode 0x00000013 = .rejected .mustBeZero ∧
    decode 0x00200004 = .rejected .mustBeZero ∧ decode 0x00100008 = .rejected .mustBeZero := by decide
theorem test_table_word : decodeTableWord 32 0x2718 = some (.posSet 625) ∧ decodeTableWord 32 0x12 = none := by decide
-- no two rows of the table share a word: their patterns differ where both masks look
theorem test_table_rows_disjoint :
    opcodeTable.Pairwise fun a b => a.pattern &&& (a.mask &&& b.mask) ≠ b.pattern &&& (a.mask &&& b.mask) := by decide

/-! ### Well-formedness: one ill-formed term for each check, which the check refuses -/

theorem test_illformed_addr : (AsmLine.cmdPublish 256 0 0).wellFormed = false := by decide
theorem test_illformed_cmd : (AsmLine.cmdPublish 0 256 0).wellFormed = false := by decide
theorem test_illformed_rep : (AsmLine.cmdPublish 0 0 2).wellFormed = false := by decide
theorem test_illformed_pos : (AsmLine.posSet 65536).wellFormed = false := by decide
theorem test_illformed_ms : (AsmLine.hostDelay 268435456).wellFormed = false := by decide
theorem test_wellformed_bounds :
    (AsmLine.cmdPublish 255 255 1).wellFormed = true ∧ (AsmLine.posSet 65535).wellFormed = true ∧
    (AsmLine.hostDelay 268435455).wellFormed = true := by decide
theorem test_host_may_not_issue : Instr.clkTick.hostMayIssue = false ∧ Instr.edgeSample.hostMayIssue = false := by decide

-- 95_test_vectors.md, words of P1 and of V-CB5, as text
theorem test_listing :
    Machine.assembleListing ["CLK_START".toList, "POS_SET 625 ; self-test".toList, "; nothing".toList,
      "  CMD_PUBLISH 255, 0xFF, 1".toList, "SETTLE".toList] = some [0x00000001, 0x00002718, 0x001FFFF4, 0x00003E8C] := by decide
theorem test_listing_refuses :
    Machine.assembleListing ["POS_SET 65536".toList] = none ∧ Machine.assembleListing ["POS_SET".toList] = none ∧
    Machine.assembleListing ["POS_SET 0x".toList] = none := by decide

/-! ### One step each -/

-- V-TC1
theorem test_clkStart : (after (exec .clkStart start)).map (fun t => (t.tmrOn, t.tmrIe, t.gie)) = some (true, true, false) := by
  decide
-- V-TC2
theorem test_clkStart_repeated :
    (after (exec .clkStart running)).map (fun t => (t.fault, t.hist)) =
      some (some .startRepeated, [.fault .startRepeated 0]) := by decide
-- V-TC7, through the ISR
theorem test_timerIsr :
    (after (step { running with tmrPf := true, clk := 41, schedule := [.timerIsr] })).map
      (fun t => (t.tmrPf, t.clk, t.hist, t.gie)) = some (false, 42, [.tick 42], true) := by decide
-- V-TC8
theorem test_clkTick_wraps : (after (exec .clkTick { running with clk := 0xFFFFFFFF })).map (·.clk) = some 0 := by decide
-- V-TC10
theorem test_clkNow : (after (exec .clkNow { start with clk := 7 })).map (fun t => (t.res, t.clk)) = some (.u32 7, 7) := by
  decide
-- V-TC4
theorem test_timerFire :
    (after (step { running with schedule := [.timerFire] })).map (fun t => (t.tmrPf, t.hist)) = some (true, [.timerFire]) := by
  decide
-- V-TC3, V-TC5, V-TC9
theorem test_not_enabled :
    canStep .timerFire start = false ∧ canStep .timerFire { running with tmrPf := true } = false ∧
    canStep .timerIsr { running with tmrPf := true, gie := false } = false := by decide
-- V-TC6
theorem test_tickOverrun :
    (after (step { running with tmrPf := true, clk := 9, correctConfig := false, schedule := [.timerFire] })).map
      (fun t => (t.fault, t.hist)) = some (some .tickOverrun, [.fault .tickOverrun 9]) := by decide
-- V-TC14 to V-TC16
theorem test_elapsed :
    elapsed 0xFFFFFFFE 0x00000001 = 3 ∧ elapsed 5 5 = 0 ∧ elapsed 0 0xFFFFFFFF = 0xFFFFFFFF := by decide
-- V-CB2
theorem test_cmdPublish_overwrites :
    (after (step (issuing { start with mb := some cmd1 } 0x00101004))).map (·.mb) = some (some ⟨0, 1, true⟩) := by decide
-- V-CB6
theorem test_cmdTake :
    (after (step (issuing { start with mb := some cmd1 } 0x00000005))).map (fun t => (t.mb, t.res, t.hist)) =
      some (none, .cmdOpt (some cmd1), [.take (some cmd1)]) := by decide
-- V-ES1, V-ES3
theorem test_pinEdge :
    (after (step { start with schedule := [.pinEdge] })).map (fun t => (t.pin, t.pcPf, t.hist)) =
      some (true, false, [.pinEdge true]) ∧
    (after (step { running with pin := true, pcPf := true, schedule := [.pinEdge] })).map (fun t => (t.pin, t.pcPf)) =
      some (false, true) := by decide
-- V-ES4
theorem test_edgeEnable : (after (exec .edgeEnable start)).map (·.pcIe) = some true := by decide
-- V-ES7
theorem test_edgeSample_error :
    (after (step { running with pcPf := true, clk := 1000, dec := .scripted [.decodeError, .partialFrame],
                                schedule := [.pinChangeIsr] })).map (fun t => (t.pcPf, t.dec, t.mb, t.hist)) =
      some (false, .scripted [.partialFrame], none, [.edgeSampled .falling 1000 .decodeError]) := by decide
-- V-ES8
theorem test_edgeSample_complete :
    (after (step { running with pin := true, pcPf := true, clk := 1000, dec := .scripted [.complete cmd1],
                                mb := some ⟨7, 7, false⟩, schedule := [.pinChangeIsr] })).map (fun t => (t.dec, t.mb, t.hist)) =
      some (.scripted [], some cmd1, [.publish cmd1, .edgeSampled .rising 1000 (.complete cmd1)]) := by decide
-- V-AD1
theorem test_posSet :
    (after (step (issuing start 0x00002718))).map (fun t => (t.pos, t.cmp, t.hist)) = some (625, 625, [.posWrite 625]) := by
  decide
-- V-AD4, V-AD5
theorem test_posSet_range :
    (after (step (issuing start 0x000007C8))).map (fun t => (t.fault, t.hist, t.pos)) =
      some (some .posRange, [.fault .posRange 124], 125) ∧
    (after (step (issuing start 0x00002728))).map (fun t => (t.fault, t.pos)) = some (some .posRange, 125) := by decide
-- V-AD11
theorem test_posGet : (after (exec .posGet { start with pos := 375 })).map (fun t => (t.res, t.pos)) = some (.posV 375, 375) := by
  decide
-- V-AD8, V-AD9
theorem test_posToggle_threshold :
    (after (exec .posToggle { start with pos := 375 })).map (fun t => (t.pos, t.cmp, t.res)) = some (625, 625, .posV 625) ∧
    (after (exec .posToggle { start with pos := 376 })).map (fun t => (t.pos, t.cmp, t.res)) = some (125, 125, .posV 125) := by
  decide
-- V-CT1
theorem test_irqEnable : (after (exec .irqEnable start)).map (·.gie) = some true := by decide
-- V-CT3
theorem test_hostDelay :
    (after (step (issuing start 0x00003E8C))).map (fun t => (t.hist, t.hpc, t.res)) = some ([.delay 1000], 1, .nothing) := by
  decide
-- V-CT9: the must-be-zero check comes before the context check
theorem test_undefined_before_context :
    (after (step (issuing start 0x00000012))).map (·.hist) = some [.fault .undefinedOp 0x12] := by decide
-- V-TC13
theorem test_illegal_context :
    (after (step (issuing start 0x00000002))).map (fun t => (t.fault, t.clk)) = some (some .illegalContext, 0) := by decide
-- V-CT10, V-CT11
theorem test_stuck_after_fault :
    step { start with fault := some .posRange } = .fault (.noStepEnabled .posRange) ∧
    step State.bootHalted = .fault (.noStepEnabled .bootHalt) := ⟨rfl, rfl⟩
-- every row of the table runs as the first operation after reset
theorem test_first_operation :
    ∀ w ∈ [1, 2, 3, 4, 5, 6, 7, 8, 9, 10, 11, 12], (after (step (State.reset.withFetchWord 32 w))).isSome = true := by decide
-- an adaptive host program branches on the result port (R192)
theorem test_host_branches :
    HostProgram.nextWord (.ifRes (.posV 125) (.issue 10 .finished) .finished) (.posV 125) = some (10, .finished) ∧
    HostProgram.nextWord (.ifRes (.posV 125) (.issue 10 .finished) .finished) .nothing = none := by decide

/-! ### Witnesses: states that meet the hypotheses of the statements -/

/-- EncodeOfDecodeIsIdentity and both clauses of DecodeAgreesWithOpcodeTable. -/
theorem test_witness_decodes : decode 0x000007D8 = .op (.posSet 125) ∧ decode 0 = .rejected .reservedSelector := by decide

/-- ReservedWordRaisesUndefinedOp: a word for each of its four alternatives. -/
theorem test_witness_reservedWords :
    wordSel 0xF = 0xF#4 ∧ (wordSel 0x00200004 = 0x4#4 ∧ (0x00200004 : Word).extractLsb' 21 11 ≠ 0#11) ∧
    (wordSel 0x00100008 = 0x8#4 ∧ (0x00100008 : Word).extractLsb' 20 12 ≠ 0#12) ∧
    (wordSel 0x13 = 0x3#4 ∧ (0x13 : Word).extractLsb' 4 28 ≠ 0#28) := by decide

/-- IssuedWordChecksInOrder: a word for each clause of the chain, in order. -/
theorem test_witness_checks :
    decodeAndCheck 0xE = .raises .undefinedOp ∧ decodeAndCheck 0x80000004 = .raises .undefinedOp ∧
    decodeAndCheck 0x80000008 = .raises .undefinedOp ∧ decodeAndCheck 0x1B = .raises .undefinedOp ∧
    decodeAndCheck 0x6 = .raises .illegalContext ∧ decodeAndCheck 0xC = .run (.hostDelay 0) := by decide

/-- HostStepRunsDecodedOperation, and AnyEnabledStepMayRunNext with the host. -/
theorem test_witness_hostStep :
    (issuing start 0x7D8).fault = none ∧ (issuing start 0x7D8).schedule = .host :: [] ∧
    (issuing start 0x7D8).program.nextWord (issuing start 0x7D8).res = some (0x7D8, .finished) ∧
    decode 0x7D8 = .op (.posSet 125) ∧ (Instr.posSet 125).hostMayIssue = true ∧
    canStep .host (issuing start 0x7D8) = true := by decide

/-- A state with both interrupts pending and enabled. -/
def bothPending : State := { running with tmrPf := true, pcPf := true }

/-- TimerIsrStepRunsClkTick, PinChangeIsrStepRunsEdgeSample, PendingInterruptsRunInEitherOrder. -/
theorem test_witness_isrSteps :
    bothPending.fault = none ∧ bothPending.gie = true ∧ bothPending.tmrIe = true ∧ bothPending.tmrPf = true ∧
    bothPending.pcIe = true ∧ bothPending.pcPf = true ∧ canStep .timerIsr bothPending = true ∧
    canStep .pinChangeIsr bothPending = true ∧
    ({ bothPending with schedule := [.timerIsr] } : State).schedule = .timerIsr :: [] ∧
    ({ bothPending with schedule := [.pinChangeIsr] } : State).schedule = .pinChangeIsr :: [] := by decide

/-- TimerFireRequestsOrOverruns, PinEdgeMovesPinAndRequests, ClkStartStartsTimer, RepeatedClkStartFaults, ChosenAgentIsEnabled:
a state for each hypothesis. -/
theorem test_witness_bits :
    start.tmrPf = false ∧ bothPending.tmrPf = true ∧ running.pcIe = true ∧ start.pcIe = false ∧ start.tmrOn = false ∧
    running.tmrOn = true ∧ start.fault = none := by decide

/-- ElapsedCountsTicksAcrossWrap at the top of its range. -/
theorem test_witness_elapsed : elapsed 7 (wrap32 ((7 : Word).toNat + (2 ^ 32 - 1))) = 0xFFFFFFFF := by decide

/-- ClockAdvancesByTicks, TakeReturnsLastPublished, PositionIsLastPosWrite: a run of one step. -/
theorem test_witness_run : ∃ t, core.run 1 (issuing start 0x00001004) = .next t := ⟨_, rfl⟩

/-- OneTickPerTimerIsr, NoStepReadsCompareRegister, NoStepReadsHistory: a step that ticks. -/
theorem test_witness_step : ∃ t, step { bothPending with schedule := [.timerIsr] } = .next t := ⟨_, rfl⟩

/-- PositionStaysInRange, ControlElementsStayConsistent, CorrectConfigLosesNoTick: a state of each that steps. -/
theorem test_witness_invariants :
    PositionInvariant bothPending ∧ ControlInvariant bothPending ∧ bothPending.correctConfig = true ∧
    ∃ t, step { bothPending with schedule := [.pinChangeIsr] } = .next t :=
  ⟨⟨by decide, by decide, rfl⟩, ⟨rfl, fun _ => rfl, fun _ => rfl⟩, rfl, _, rfl⟩

/-- TicksStayAccounted: one period elapsed and still pending, and a step. -/
theorem test_witness_ticksAccounted :
    TicksAccounted { running with tmrPf := true, hist := [.timerFire], schedule := [.timerIsr] } ∧
    ∃ t, step { running with tmrPf := true, hist := [.timerFire], schedule := [.timerIsr] } = .next t :=
  ⟨rfl, _, rfl⟩

/-- EdgeSampleFeedsDecoder: a decoder state for each of the three outcomes. -/
theorem test_witness_outcomes :
    decodePulse (.scripted [.complete cmd1]) .falling 0 = (.scripted [], .complete cmd1) ∧
    decodePulse (.scripted []) .falling 0 = (.scripted [], .partialFrame) ∧
    decodePulse (.scripted [.decodeError]) .falling 0 = (.scripted [], .decodeError) := by decide

/-- DecoderStateBelongsToEdgeSample: an agent other than the pin-change ISR that steps. -/
theorem test_witness_otherAgent : Agent.pinEdge ≠ .pinChangeIsr ∧ ∃ t, agentStep .pinEdge start = .next t :=
  ⟨by decide, _, rfl⟩

/-- PosSetCommandsPosition, PosSetOutOfRangeFaults and PosToggleCommandsOtherEnd at the bounds of their ranges. -/
theorem test_witness_positions :
    125 ≤ (125 : Half).toNat ∧ (625 : Half).toNat ≤ 625 ∧ (124 : Half).toNat < 125 ∧ 625 < (626 : Half).toNat ∧
    (375 : Half).toNat ≤ 375 ∧ 375 < (376 : Half).toNat := by decide

/-- ReferenceLoopFiltersCommands: a repeat, a no-op, and a command that qualifies. -/
theorem test_witness_commands :
    (⟨0, 1, true⟩ : Cmd).isRepeat = true ∧ (⟨0, 0, false⟩ : Cmd).command = 0 ∧
    (cmd1.isRepeat = false ∧ cmd1.command ≠ 0) := by decide

/-- A launch of the reference program at its loop, the host about to step. -/
def inLoop : State := { running with program := .reference .take, schedule := [.host] }

/-- ReferenceLoopNeverFaults and ActuatorEndsCycleAtRest. -/
theorem test_witness_reference :
    inLoop.fault = none ∧ inLoop.program = .reference .take ∧ RefPoint.take ≠ .clkStart ∧ RestInvariant inLoop ∧
    ∃ t, step inLoop = .next t :=
  ⟨rfl, rfl, by decide, ⟨_, rfl, fun _ => rfl⟩, _, rfl⟩

/-- FaultStopsEveryAgent. -/
theorem test_witness_fault : State.bootHalted.fault = some .bootHalt := rfl
-- row 6 of R221's table
/-- The halted launch records its fault with info 0. -/
theorem test_bootHalted_hist : State.bootHalted.hist = [.fault .bootHalt 0] := rfl

/-- FaultsArePrecise: a step that raises, for each code a step can raise. -/
theorem test_witness_raises :
    (∃ t, agentStep .timerFire { bothPending with correctConfig := false } = .next t ∧ t.fault = some .tickOverrun) ∧
    (∃ t, agentStep .host (issuing start 0) = .next t ∧ t.fault = some .undefinedOp) ∧
    (∃ t, agentStep .host (issuing start 6) = .next t ∧ t.fault = some .illegalContext) ∧
    (∃ t, agentStep .host (issuing running 1) = .next t ∧ t.fault = some .startRepeated) ∧
    (∃ t, agentStep .host (issuing start 8) = .next t ∧ t.fault = some .posRange) :=
  ⟨⟨_, rfl, rfl⟩, ⟨_, rfl, rfl⟩, ⟨_, rfl, rfl⟩, ⟨_, rfl, rfl⟩, ⟨_, rfl, rfl⟩⟩

/-- The agents of those steps are enabled. -/
theorem test_witness_raises_enabled :
    canStep .timerFire { bothPending with correctConfig := false } = true ∧ canStep .host (issuing start 0) = true ∧
    canStep .host (issuing start 6) = true ∧ canStep .host (issuing running 1) = true ∧
    canStep .host (issuing start 8) = true := by decide

/-- GieIsSetByIrqEnableOnly, InterruptControlWriters, CellsHaveOnlyTheirWriters: an enabled step of the host that issues IRQ_ENABLE,
and a state without GIE. -/
theorem test_witness_writers :
    canStep .host (issuing start 0xB) = true ∧ Issues .host (issuing start 0xB) .irqEnable ∧ start.gie = false ∧
    ∃ t, agentStep .host (issuing start 0xB) = .next t :=
  ⟨by decide, ⟨rfl, _, _, rfl, by decide⟩, rfl, _, rfl⟩

/-- CellsHaveOnlyTheirWriters: for each cell of the access matrix an enabled step that changes it (FAULT: `test_witness_raises`). -/
theorem test_witness_cells :
    let moves (a : Agent) (s : State) (p : State → State → Bool) : Bool :=
      canStep a s && (after (agentStep a s)).any (fun t => p s t)
    moves .timerIsr bothPending (fun s t => s.clk != t.clk && s.tmrPf != t.tmrPf) = true ∧
    moves .timerFire running (fun s t => s.tmrPf != t.tmrPf) = true ∧
    moves .pinChangeIsr { bothPending with dec := .scripted [.complete cmd1] }
      (fun s t => s.mb != t.mb && s.dec != t.dec && s.pcPf != t.pcPf) = true ∧
    moves .pinEdge running (fun s t => s.pin != t.pin && s.pcPf != t.pcPf) = true ∧
    moves .host (issuing start 0x1) (fun s t => s.tmrOn != t.tmrOn && s.tmrIe != t.tmrIe) = true ∧
    moves .host (issuing start 0x7) (fun s t => s.pcIe != t.pcIe) = true ∧
    moves .host (issuing start 0xB) (fun s t => s.gie != t.gie) = true ∧
    moves .host (issuing start 0xA) (fun s t => s.pos != t.pos && s.cmp != t.cmp && s.res != t.res) = true ∧
    moves .host (issuing start 0x2718) (fun s t => s.pos != t.pos && s.cmp != t.cmp) = true ∧
    moves .host (issuing start 0x1004) (fun s t => s.mb != t.mb) = true ∧
    moves .host (issuing { start with mb := some cmd1 } 0x5) (fun s t => s.mb != t.mb && s.res != t.res) = true := by decide

/-! ### An infinite fair run, for TicksKeepComing -/

/-- The timer's period and the timer ISR take turns. -/
def turns (k : Nat) : Agent := if k % 2 = 0 then .timerFire else .timerIsr

/-- The states of that run, from `running` with no edge request. -/
def states : Nat → State
  | 0 => running
  | k + 1 => (after (agentStep (turns k) (states k))).getD running

/-- What every state of the run holds. -/
theorem states_shape (k : Nat) :
    (states k).fault = none ∧ (states k).gie = true ∧ (states k).tmrIe = true ∧ (states k).tmrOn = true ∧
    (states k).correctConfig = true ∧ (states k).pcPf = false ∧ (states k).program = .finished ∧
    (states k).tmrPf = decide (k % 2 = 1) := by
  induction k with
  | zero => decide
  | succ k ih =>
    obtain ⟨h1, h2, h3, h4, h5, h6, h7, h8⟩ := ih
    rcases Nat.mod_two_eq_zero_or_one k with hk | hk
    · have hp : (states k).tmrPf = false := by rw [h8]; simp [hk]
      simp [states, turns, hk, agentStep, timerFire, after, hp, h1, h2, h3, h4, h5, h6, h7, show (k + 1) % 2 = 1 by omega]
    · simp [states, turns, hk, agentStep, dispatchIsr, isrBody, exec, execClkTick, after, h1, h3, h4, h5, h6, h7,
        show (k + 1) % 2 = 0 by omega]

/-- Every step of the run answers its next state. -/
theorem states_next (k : Nat) : agentStep (turns k) (states k) = .next (states (k + 1)) := by
  rcases Nat.mod_two_eq_zero_or_one k with hk | hk
  · simp [states, turns, hk, agentStep, after]
  · simp [states, turns, hk, agentStep, dispatchIsr, isrBody, exec, execClkTick, after]

/-- TicksKeepComing: an infinite run that is fair, with the timer started and interrupts enabled. -/
theorem test_witness_fairRun :
    IsRun states turns ∧ WeaklyFair states turns ∧ (states 0).tmrOn = true ∧ (states 0).tmrIe = true ∧
    (states 0).gie = true := by
  refine ⟨fun k => ⟨?_, states_next k⟩, fun a ha k => ?_, rfl, rfl, rfl⟩
  · obtain ⟨h1, h2, h3, h4, h5, -, -, h8⟩ := states_shape k
    rcases Nat.mod_two_eq_zero_or_one k with hk | hk <;> simp [canStep, turns, hk, h1, h2, h3, h4, h8]
  · obtain ⟨h1, -, -, -, -, h6, h7, -⟩ := states_shape k
    cases a with
    | host => exact ⟨k, le_refl k, .inl (by simp [canStep, h7, HostProgram.nextWord])⟩
    | timerFire => exact ⟨2 * k, by omega, .inr (by simp [turns])⟩
    | timerIsr => exact ⟨2 * k + 1, by omega, .inr (by simp [turns, show (2 * k + 1) % 2 = 1 by omega])⟩
    | pinChangeIsr => exact ⟨k, le_refl k, .inl (by simp [canStep, h6])⟩
    | pinEdge => exact absurd rfl ha

/-- TicksKeepComing, second clause: a state of each of its two cases. -/
theorem test_witness_tickTurns :
    running.fault = none ∧ running.tmrOn = true ∧ running.tmrIe = true ∧ running.gie = true ∧ running.tmrPf = false ∧
    { running with tmrPf := true }.fault = none ∧ { running with tmrPf := true }.tmrPf = true := by decide

end Sys2Proof.Tests
end

/-!
The statements about the machine's state (spec 10_state.md): the cells no step reads (R25, R37), and who may write each cell (R30,
R46). The branches of the operations that have some come first, then what one cell's value can do to a step, then the writers.
-/

namespace Sys2Proof.Machine

open Sys2Proof.Safety

/-! ### The branches of the operations that have some -/

theorem exec_clkStart_first {s : State} (h : s.tmrOn = false) : exec .clkStart s = .next (s.startTimer.log .start) := by
  simp [exec, execClkStart, h]

theorem exec_clkStart_repeated {s : State} (h : s.tmrOn = true) : exec .clkStart s = .next (s.raise .startRepeated 0) := by
  simp [exec, execClkStart, h]

theorem exec_posSet_inRange {p : Half} (h : posInRange p = true) (s : State) :
    exec (.posSet p) s = .next (s.commandPosition p) := by
  simp [exec, execPosSet, h]

theorem exec_posSet_outOfRange {p : Half} (h : posInRange p = false) (s : State) :
    exec (.posSet p) s = .next (s.raise .posRange p.toNat) := by
  simp [exec, execPosSet, h]

theorem exec_edgeSample {s : State} {d : DState} {o : DecodeOutcome} (h : decodePulse s.dec (edgeEvent s.pin) s.clk = (d, o)) :
    exec .edgeSample s = .next ((deliver (s.setDec d) o).log (.edgeSampled (edgeEvent s.pin) s.clk o)) := by
  simp [exec, execEdgeSample, h]

theorem timerFire_request {s : State} (h : s.tmrPf = false) : timerFire s = s.requestTimer.log .timerFire := by
  simp [timerFire, h]

theorem timerFire_overrun {s : State} (h : s.tmrPf = true) : timerFire s = s.raise .tickOverrun s.clk.toNat := by
  simp [timerFire, h]

/-! ### Cells no step reads -/

/-- From `s`, `f` takes the same course whatever value the cell that `put` writes holds, and makes of that value what one function
of `allowed` makes of it. -/
def Carries {α : Type} (put : State → α → State) (allowed : (α → α) → Prop)
    (f : State → Host.Outcome State Fault Refusal) (s : State) : Prop :=
  ∃ e, allowed e ∧ ∀ x, f (put s x) = mapNext (put · (e x)) (f s)

/-- The cell that `put` writes decides neither whose step is next nor which word the host issues, and the bookkeeping around an
operation passes it by. -/
structure SteersNothing {α : Type} (put : State → α → State) : Prop where
  fault : ∀ s x, (put s x).fault = s.fault
  pick : ∀ s x, pick (put s x) = pick s
  nextWord : ∀ s x, (put s x).program.nextWord (put s x).res = s.program.nextWord s.res
  hostAdvance : ∀ rest s x, (put s x).hostAdvance rest = put (s.hostAdvance rest) x
  enterIsr : ∀ src s x, (put s x).enterIsr src = put (s.enterIsr src) x
  leaveIsr : ∀ s x, (put s x).leaveIsr = put s.leaveIsr x
  advanceSchedule : ∀ s x, (put s x).advanceSchedule = put s.advanceSchedule x

section Carries

variable {α : Type} {put : State → α → State} {allowed : (α → α) → Prop} {f : State → Host.Outcome State Fault Refusal} {s : State}

/-- Continuing with an update that passes the cell by. -/
theorem Carries.mapNext {g : State → State} (hf : Carries put allowed f s) (hg : ∀ s x, g (put s x) = put (g s) x) :
    Carries put allowed (fun s => mapNext g (f s)) s := by
  obtain ⟨e, he, hx⟩ := hf
  refine ⟨e, he, fun x => ?_⟩
  simp only [hx]
  cases f s <;> simp [Machine.mapNext, hg]

variable (hp : SteersNothing put) (hexec : ∀ i s, Carries put allowed (exec i) s)
include hp hexec

theorem dispatchIsr_carries (src : IrqSource) (s : State) : Carries put allowed (dispatchIsr src) s := by
  obtain ⟨e, he, hx⟩ := (hexec (isrBody src) (s.enterIsr src)).mapNext hp.leaveIsr
  exact ⟨e, he, fun x => by simpa [dispatchIsr, hp.enterIsr] using hx x⟩

variable (hraise : ∀ c n s, Carries put allowed (fun s => .next (s.raise c n)) s)
include hraise

theorem issueWord_carries (w : Word) (rest : HostProgram) (s : State) : Carries put allowed (issueWord w rest) s := by
  cases hw : decodeAndCheck w with
  | run i => simpa [Carries, issueWord, hw] using (hexec i s).mapNext (hp.hostAdvance rest)
  | raises c => simpa [Carries, issueWord, hw] using (hraise c w.toNat s).mapNext (g := (·.hostAdvance rest)) (hp.hostAdvance rest)

theorem hostStep_carries (hid : allowed id) (s : State) : Carries put allowed hostStep s := by
  cases hw : s.program.nextWord s.res with
  | none => exact ⟨id, hid, fun x => by simp [hostStep, hp.nextWord, hw]⟩
  | some next => simpa [Carries, hostStep, hp.nextWord, hw] using issueWord_carries hp hexec hraise next.1 next.2 s

/-- A step carries the cell, if it steers nothing and the operations, the faults and the environment's two events carry it. -/
theorem step_carries (hid : allowed id) (hfire : ∀ s, Carries put allowed (agentStep .timerFire) s)
    (hedge : ∀ s, Carries put allowed (agentStep .pinEdge) s) (s : State) : Carries put allowed step s := by
  have hagent : Carries put allowed (agentStep (pick s)) s := by
    cases pick s with
    | host => exact hostStep_carries hp hexec hraise hid s
    | timerFire => exact hfire s
    | timerIsr => exact dispatchIsr_carries hp hexec .tmr s
    | pinChangeIsr => exact dispatchIsr_carries hp hexec .pc s
    | pinEdge => exact hedge s
  cases hf : s.fault with
  | some c => exact ⟨id, hid, fun x => by simp [step, hp.fault, hf, mapNext]⟩
  | none => simpa [Carries, step, hp.fault, hp.pick, hf] using hagent.mapNext hp.advanceSchedule

end Carries

/-! ### CMP (R25) -/

/-- What a step may make of CMP's value: keep it, or write over it. -/
def KeepsOrWrites (e : Half → Half) : Prop := e = id ∨ ∃ c, e = fun _ => c

theorem steersNothing_setCmp : SteersNothing State.setCmp :=
  ⟨fun _ _ => rfl, fun _ _ => rfl, fun _ _ => rfl, fun _ _ _ => rfl, fun _ _ _ => rfl, fun _ _ => rfl, fun _ _ => rfl⟩

theorem deliver_setCmp (s : State) (o : DecodeOutcome) (v : Half) : deliver (s.setCmp v) o = (deliver s o).setCmp v := by
  cases o <;> rfl

/-- Only a commanded position writes CMP, and no operation reads it. -/
theorem exec_carries_cmp (i : Instr) (s : State) : Carries State.setCmp KeepsOrWrites (exec i) s := by
  have keeps (h : ∀ v, exec i (s.setCmp v) = mapNext (·.setCmp v) (exec i s)) : Carries State.setCmp KeepsOrWrites (exec i) s :=
    ⟨id, .inl rfl, h⟩
  cases i with
  | clkStart =>
    refine keeps fun v => ?_
    cases h : s.tmrOn with
    | false => rw [exec_clkStart_first h, exec_clkStart_first (s := s.setCmp v) h]; rfl
    | true => rw [exec_clkStart_repeated h, exec_clkStart_repeated (s := s.setCmp v) h]; rfl
  | posSet p =>
    cases h : posInRange p with
    | false => exact keeps fun v => by simp only [exec_posSet_outOfRange h]; rfl
    | true => exact ⟨fun _ => p, .inr ⟨p, rfl⟩, fun v => by simp only [exec_posSet_inRange h]; rfl⟩
  | posToggle => exact ⟨fun _ => toggleTarget s.pos, .inr ⟨_, rfl⟩, fun _ => rfl⟩
  | edgeSample =>
    cases h : decodePulse s.dec (edgeEvent s.pin) s.clk with | mk d o =>
    refine keeps fun v => ?_
    rw [exec_edgeSample h, exec_edgeSample (s := s.setCmp v) h]
    exact congrArg (fun u => Host.Outcome.next (State.log u _)) (deliver_setCmp (s.setDec d) o v)
  | clkTick | clkNow | cmdPublish | cmdTake | edgeEnable | posGet | irqEnable | hostDelay => exact keeps fun _ => rfl

theorem step_carries_cmp (s : State) : Carries State.setCmp KeepsOrWrites step s := by
  refine step_carries steersNothing_setCmp exec_carries_cmp (fun _ _ _ => ⟨id, .inl rfl, fun _ => rfl⟩) (.inl rfl) (fun s => ?_)
    (fun _ => ⟨id, .inl rfl, fun _ => rfl⟩) s
  refine ⟨id, .inl rfl, fun v => ?_⟩
  cases h : s.tmrPf with
  | false => simp only [agentStep, timerFire_request h, timerFire_request (s := s.setCmp v) h]; rfl
  | true => simp only [agentStep, timerFire_overrun h, timerFire_overrun (s := s.setCmp v) h]; rfl

/-- Settles O41: a step carries CMP through, or writes over it. -/
theorem noStepReadsCompareRegister : Obligations.NoStepReadsCompareRegister := by
  intro s t v h
  obtain ⟨e, he, hstep⟩ := step_carries_cmp s
  simp only [h, mapNext_next] at hstep
  have same : t = t.setCmp (e s.cmp) := Host.Outcome.next.inj (h.symm.trans (hstep s.cmp))
  obtain rfl | ⟨c, rfl⟩ := he
  · exact .inl ⟨hstep v, congrArg (·.cmp) same⟩
  · exact .inr ((hstep v).trans (congrArg _ same.symm))

/-! ### HIST (R37) -/

/-- `HIST <- h`, which no step does: what HIST is compared by. -/
def State.withHist (s : State) (h : List Event) : State := { s with hist := h }

/-- What a step may do to HIST: append a fixed list. -/
def Appends (e : List Event → List Event) : Prop := ∃ es, e = (· ++ es)

theorem steersNothing_withHist : SteersNothing State.withHist :=
  ⟨fun _ _ => rfl, fun _ _ => rfl, fun _ _ => rfl, fun _ _ _ => rfl, fun _ _ _ => rfl, fun _ _ => rfl, fun _ _ => rfl⟩

/-- One event is logged whatever the history. -/
theorem carries_hist_of_log {f : State → Host.Outcome State Fault Refusal} {s : State} (ev : Event)
    (h : ∀ l, f (s.withHist l) = mapNext (·.withHist (l ++ [ev])) (f s)) : Carries State.withHist Appends f s :=
  ⟨(· ++ [ev]), ⟨[ev], rfl⟩, h⟩

theorem appends_id : Appends id := ⟨[], funext fun l => (List.append_nil l).symm⟩

/-- Delivering an outcome appends the Publish of a complete decode, or nothing. -/
theorem deliver_withHist (o : DecodeOutcome) :
    ∃ es, ∀ (s : State) l, deliver (s.withHist l) o = (deliver s o).withHist (l ++ es) := by
  cases o with
  | complete c => exact ⟨[.publish c], fun _ _ => rfl⟩
  | partialFrame | decodeError => exact ⟨[], fun s l => by simp [deliver]⟩

/-- Every operation appends events that do not depend on the history. -/
theorem exec_carries_hist (i : Instr) (s : State) : Carries State.withHist Appends (exec i) s := by
  cases i with
  | clkStart =>
    cases h : s.tmrOn with
    | false =>
      refine carries_hist_of_log .start fun l => ?_
      rw [exec_clkStart_first h, exec_clkStart_first (s := s.withHist l) h]; rfl
    | true =>
      refine carries_hist_of_log (.fault .startRepeated 0) fun l => ?_
      rw [exec_clkStart_repeated h, exec_clkStart_repeated (s := s.withHist l) h]; rfl
  | clkTick => exact carries_hist_of_log (.tick (nextTick s.clk)) fun _ => rfl
  | clkNow => exact carries_hist_of_log (.now s.clk) fun _ => rfl
  | cmdPublish a c r => exact carries_hist_of_log (.publish ⟨a, c, r⟩) fun _ => rfl
  | cmdTake => exact carries_hist_of_log (.take s.mb) fun _ => rfl
  | edgeSample =>
    cases h : decodePulse s.dec (edgeEvent s.pin) s.clk with | mk d o =>
    obtain ⟨es, hes⟩ := deliver_withHist o
    refine ⟨_, ⟨es ++ [.edgeSampled (edgeEvent s.pin) s.clk o], rfl⟩, fun l => ?_⟩
    rw [exec_edgeSample h, exec_edgeSample (s := s.withHist l) h, ← List.append_assoc]
    exact congrArg (fun u => Host.Outcome.next (State.log u _)) (hes (s.setDec d) l)
  | edgeEnable => exact carries_hist_of_log .edgeEnable fun _ => rfl
  | posSet p =>
    cases h : posInRange p with
    | false => exact carries_hist_of_log (.fault .posRange p.toNat) fun l => by simp only [exec_posSet_outOfRange h]; rfl
    | true => exact carries_hist_of_log (.posWrite p) fun l => by simp only [exec_posSet_inRange h]; rfl
  | posGet => exact ⟨id, appends_id, fun _ => rfl⟩
  | posToggle => exact carries_hist_of_log (.posWrite (toggleTarget s.pos)) fun _ => rfl
  | irqEnable => exact carries_hist_of_log .irqEnable fun _ => rfl
  | hostDelay ms => exact carries_hist_of_log (.delay ms) fun _ => rfl

theorem step_carries_hist (s : State) : Carries State.withHist Appends step s := by
  refine step_carries steersNothing_withHist exec_carries_hist (fun c n _ => carries_hist_of_log (.fault c n) fun _ => rfl)
    appends_id (fun s => ?_) (fun s => carries_hist_of_log (.pinEdge (!s.pin)) fun _ => rfl) s
  cases h : s.tmrPf with
  | false =>
    refine carries_hist_of_log .timerFire fun l => ?_
    simp only [agentStep, timerFire_request h, timerFire_request (s := s.withHist l) h]; rfl
  | true =>
    refine carries_hist_of_log (.fault .tickOverrun s.clk.toNat) fun l => ?_
    simp only [agentStep, timerFire_overrun h, timerFire_overrun (s := s.withHist l) h]; rfl

/-- Settles O53: a step carries HIST through and appends one list of events to it. -/
theorem noStepReadsHistory : Obligations.NoStepReadsHistory := by
  intro s t h
  obtain ⟨_, ⟨es, rfl⟩, hstep⟩ := step_carries_hist s
  simp only [h, mapNext_next] at hstep
  have same : t = t.withHist (s.hist ++ es) := Host.Outcome.next.inj (h.symm.trans (hstep s.hist))
  exact ⟨es, congrArg (·.hist) same, hstep⟩

/-! ### Who writes which cell (R30, R46) -/

theorem issues_host_iff {s : State} {w : Word} {rest : HostProgram} (hw : s.program.nextWord s.res = some (w, rest)) (i : Instr) :
    Issues .host s i ↔ decodeAndCheck w = .run i := by
  simp [Issues, hw]

/-- An enabled host step records a fault and issues no operation, or issues one operation the host may issue and runs it. -/
theorem issueWord_raises_or_issues {s t : State} {w : Word} {rest : HostProgram}
    (hw : s.program.nextWord s.res = some (w, rest)) (h : issueWord w rest s = .next t) :
    (∃ c, (∀ i, ¬ Issues .host s i) ∧ t = (s.raise c w.toNat).hostAdvance rest) ∨
    (∃ i u, i.hostMayIssue = true ∧ (∀ j, Issues .host s j ↔ i = j) ∧ exec i s = .next u ∧ t = u.hostAdvance rest) := by
  obtain ⟨c, hc, rfl⟩ | ⟨i, u, hi, hu, rfl⟩ := issueWord_cases h
  · exact .inl ⟨c, by simp [issues_host_iff hw, hc], rfl⟩
  · exact .inr ⟨i, u, (decodeAndCheck_run hi).2, by simp [issues_host_iff hw, hi], hu, rfl⟩

/-- The column 'written by' of R46 for the operations: when one changes a cell, it is one listed as its writer. -/
structure WritesOnlyItsCells (i : Instr) (s t : State) : Prop where
  clk : t.clk ≠ s.clk → i = .clkTick
  mb : t.mb ≠ s.mb → i = .edgeSample ∨ i = .cmdTake ∨ ∃ x y r, i = .cmdPublish x y r
  pos : t.pos ≠ s.pos → i = .posToggle ∨ ∃ p, i = .posSet p
  cmp : t.cmp ≠ s.cmp → i = .posToggle ∨ ∃ p, i = .posSet p
  tmrOn : t.tmrOn ≠ s.tmrOn → i = .clkStart
  tmrIe : t.tmrIe ≠ s.tmrIe → i = .clkStart
  pcIe : t.pcIe ≠ s.pcIe → i = .edgeEnable
  gie : t.gie ≠ s.gie → i = .irqEnable
  tmrPf : t.tmrPf = s.tmrPf
  pcPf : t.pcPf = s.pcPf
  pin : t.pin = s.pin
  dec : t.dec ≠ s.dec → i = .edgeSample
  res : t.res ≠ s.res → i = .clkNow ∨ i = .cmdTake ∨ i = .posGet ∨ i = .posToggle
  fault : t.fault ≠ s.fault → (i = .clkStart ∨ ∃ p, i = .posSet p) ∧
    ∃ c info, t.fault = some c ∧ t.hist = s.hist ++ [.fault c info]

theorem raise_writesOnlyFault {i : Instr} {c : FaultCode} (s : State) (n : Nat) (hi : i = .clkStart ∨ ∃ p, i = .posSet p) :
    WritesOnlyItsCells i s (s.raise c n) := by
  constructor <;> simp [hi]

/-- Each operation, in each of its branches, changes its own cells only. -/
theorem exec_writesOnlyItsCells {i : Instr} {s t : State} (h : exec i s = .next t) : WritesOnlyItsCells i s t := by
  cases i with
  | clkStart =>
    cases hon : s.tmrOn with
    | false =>
      obtain rfl := Host.Outcome.next.inj ((exec_clkStart_first hon).symm.trans h)
      constructor <;> simp
    | true =>
      obtain rfl := Host.Outcome.next.inj ((exec_clkStart_repeated hon).symm.trans h)
      exact raise_writesOnlyFault s _ (.inl rfl)
  | posSet p =>
    cases hp : posInRange p with
    | false =>
      obtain rfl := Host.Outcome.next.inj ((exec_posSet_outOfRange hp s).symm.trans h)
      exact raise_writesOnlyFault s _ (.inr ⟨p, rfl⟩)
    | true =>
      obtain rfl := Host.Outcome.next.inj ((exec_posSet_inRange hp s).symm.trans h)
      constructor <;> simp
  | edgeSample =>
    cases hdo : decodePulse s.dec (edgeEvent s.pin) s.clk with | mk d o =>
    obtain rfl := Host.Outcome.next.inj ((exec_edgeSample hdo).symm.trans h)
    obtain ⟨c, -, hd⟩ | ⟨-, hd⟩ := deliver_cases (s.setDec d) o <;> constructor <;> simp [hd]
  | clkTick | clkNow | cmdPublish | cmdTake | edgeEnable | posGet | posToggle | irqEnable | hostDelay =>
    obtain rfl := Host.Outcome.next.inj h
    constructor <;> simp

theorem exec_irqEnable_gie {s t : State} (h : exec .irqEnable s = .next t) : t.gie = true := by
  obtain rfl := Host.Outcome.next.inj h
  simp

/-- TIMER_FIRE requests the interrupt, or raises TICK_OVERRUN. -/
theorem timerFire_cases (s : State) :
    timerFire s = s.requestTimer.log .timerFire ∨ timerFire s = s.raise .tickOverrun s.clk.toNat := by
  cases h : s.tmrPf with
  | false => exact .inl (timerFire_request h)
  | true => exact .inr (timerFire_overrun h)

theorem gie_of_canStep_isr {a : Agent} {s : State} (ha : a = .timerIsr ∨ a = .pinChangeIsr) (h : canStep a s = true) :
    s.gie = true := by
  obtain rfl | rfl := ha <;> simp_all [canStep]

theorem not_issues {a : Agent} (ha : a ≠ .host) (s : State) (i : Instr) : ¬ Issues a s i := fun h => ha h.1

/-- Settles O50: an ISR's step finds GIE set and leaves it set (R229), and every other step but IRQ_ENABLE passes it by. -/
theorem gieIsSetByIrqEnableOnly : Obligations.GieIsSetByIrqEnableOnly := by
  refine ⟨rfl, fun s h => by simp [canStep, h], fun a s t he h => ?_⟩
  obtain ⟨rfl, w, rest, hw, hi⟩ | ⟨rfl, rfl⟩ | ⟨rfl, u, -, rfl⟩ | ⟨rfl, u, -, rfl⟩ | ⟨rfl, rfl⟩ := agentStep_cases he h
  case inl =>
    obtain ⟨c, hno, rfl⟩ | ⟨i, u, -, hiff, hu, rfl⟩ := issueWord_raises_or_issues hw hi
    · exact .inr ⟨hno _, by simp⟩
    · by_cases heq : i = .irqEnable
      · subst heq
        exact .inl ⟨(hiff _).2 rfl, exec_irqEnable_gie (t := u) hu⟩
      · exact .inr ⟨heq ∘ (hiff _).1, not_imp_comm.1 (exec_writesOnlyItsCells hu).gie heq⟩
  all_goals refine .inr ⟨not_issues (by decide) s _, ?_⟩
  · obtain h | h := timerFire_cases s <;> simp [h]
  · simp [gie_of_canStep_isr (.inl rfl) he]
  · simp [gie_of_canStep_isr (.inr rfl) he]
  · simp [pinEdge]

/-- Settles O52: the host's cells are those of the operation it issues, an ISR's those of its body and its own request. -/
theorem cellsHaveOnlyTheirWriters : Obligations.CellsHaveOnlyTheirWriters := by
  intro a s t he h
  obtain ⟨rfl, w, rest, hw, hi⟩ | ⟨rfl, rfl⟩ | ⟨rfl, u, hu, rfl⟩ | ⟨rfl, u, hu, rfl⟩ | ⟨rfl, rfl⟩ := agentStep_cases he h
  · obtain ⟨c, -, rfl⟩ | ⟨i, u, hmay, hiff, hu, rfl⟩ := issueWord_raises_or_issues hw hi
    · simp
    · have writes := exec_writesOnlyItsCells hu
      have hTick : i ≠ .clkTick := by rintro rfl; cases hmay
      have hSample : i ≠ .edgeSample := by rintro rfl; cases hmay
      simp only [hiff]
      exact ⟨fun h => absurd (writes.clk h) hTick, fun h => .inr ((writes.mb h).resolve_left hSample), writes.pos, writes.cmp,
        writes.tmrOn, writes.tmrIe, writes.pcIe, writes.gie, fun h => absurd writes.tmrPf h, fun h => absurd writes.pcPf h,
        fun h => absurd writes.pin h, fun h => absurd (writes.dec h) hSample, writes.res,
        fun h => ⟨.inl trivial, (writes.fault h).2⟩⟩
  · obtain h | h := timerFire_cases s <;> simp [h]
  · obtain ⟨clk, mb, pos, cmp, tmrOn, tmrIe, pcIe, gie, tmrPf, pcPf, pin, dec, res, fault⟩ := exec_writesOnlyItsCells hu
    simp_all [gie_of_canStep_isr (.inl rfl) he]
  · obtain ⟨clk, mb, pos, cmp, tmrOn, tmrIe, pcIe, gie, tmrPf, pcPf, pin, dec, res, fault⟩ := exec_writesOnlyItsCells hu
    simp_all [gie_of_canStep_isr (.inr rfl) he]
  · simp [pinEdge]

end Sys2Proof.Machine

/-!
The statements about the order and atomicity of steps (spec 20_memory.md): which agent steps next (R60), and the account of ticks
(R61). What an operation can do, branch by branch, comes first, then what every operation and every agent's step keeps.
-/

namespace Sys2Proof.Machine

open Sys2Proof.Safety

/-! ### The branches of `exec` -/

/-- `t` is the next state of operation `i` in `s`, by one of the operation's branches. -/
inductive ExecBranch (s : State) : Instr → State → Prop
  | clkStartFirst (h : s.tmrOn = false) : ExecBranch s .clkStart (s.startTimer.log .start)
  | clkStartRepeated (h : s.tmrOn = true) : ExecBranch s .clkStart (s.raise .startRepeated 0)
  | clkTick : ExecBranch s .clkTick ((s.criticalSection (·.setClk (nextTick s.clk))).log (.tick (nextTick s.clk)))
  | clkNow : ExecBranch s .clkNow ((s.setRes (.u32 s.clk)).log (.now s.clk))
  | cmdPublish (a c : Byte) (r : Bool) : ExecBranch s (.cmdPublish a c r) (s.publish ⟨a, c, r⟩)
  | cmdTake : ExecBranch s .cmdTake (((s.criticalSection (·.setMb none)).setRes (.cmdOpt s.mb)).log (.take s.mb))
  | edgeSampleComplete {d : DState} {c : Cmd} (h : decodePulse s.dec (edgeEvent s.pin) s.clk = (d, .complete c)) :
      ExecBranch s .edgeSample (((s.setDec d).publish c).log (.edgeSampled (edgeEvent s.pin) s.clk (.complete c)))
  | edgeSampleOther {d : DState} {o : DecodeOutcome} (h : decodePulse s.dec (edgeEvent s.pin) s.clk = (d, o))
      (ho : ∀ c, o ≠ .complete c) : ExecBranch s .edgeSample ((s.setDec d).log (.edgeSampled (edgeEvent s.pin) s.clk o))
  | edgeEnable : ExecBranch s .edgeEnable (s.enablePinChange.log .edgeEnable)
  | posSetInRange {p : Half} (h : posInRange p = true) : ExecBranch s (.posSet p) (s.commandPosition p)
  | posSetOutOfRange {p : Half} (h : posInRange p = false) : ExecBranch s (.posSet p) (s.raise .posRange p.toNat)
  | posGet : ExecBranch s .posGet (s.setRes (.posV s.pos))
  | posToggle : ExecBranch s .posToggle ((s.commandPosition (toggleTarget s.pos)).setRes (.posV (toggleTarget s.pos)))
  | irqEnable : ExecBranch s .irqEnable (s.enableInterrupts.log .irqEnable)
  | hostDelay (ms : Millis) : ExecBranch s (.hostDelay ms) (s.log (.delay ms))

/-- A next state of an operation comes from one of its branches. -/
theorem exec_branch {i : Instr} {s t : State} (h : exec i s = .next t) : ExecBranch s i t := by
  cases i with
  | clkStart =>
    cases hon : s.tmrOn with
    | false => exact Host.Outcome.next.inj ((exec_clkStart_first hon).symm.trans h) ▸ .clkStartFirst hon
    | true => exact Host.Outcome.next.inj ((exec_clkStart_repeated hon).symm.trans h) ▸ .clkStartRepeated hon
  | posSet p =>
    cases hp : posInRange p with
    | false => exact Host.Outcome.next.inj ((exec_posSet_outOfRange hp s).symm.trans h) ▸ .posSetOutOfRange hp
    | true => exact Host.Outcome.next.inj ((exec_posSet_inRange hp s).symm.trans h) ▸ .posSetInRange hp
  | edgeSample =>
    cases hdo : decodePulse s.dec (edgeEvent s.pin) s.clk with | mk d o =>
    obtain rfl := Host.Outcome.next.inj ((exec_edgeSample hdo).symm.trans h)
    obtain ⟨c, rfl, hd⟩ | ⟨ho, hd⟩ := deliver_cases (s.setDec d) o
    · rw [hd]; exact .edgeSampleComplete hdo
    · rw [hd]; exact .edgeSampleOther hdo ho
  | clkTick | clkNow | cmdPublish | cmdTake | edgeEnable | posGet | posToggle | irqEnable | hostDelay =>
    obtain rfl := Host.Outcome.next.inj h
    constructor

/-! ### Whose step is next (R60) -/

theorem fault_of_canStep {a : Agent} {s : State} (h : canStep a s = true) : s.fault = none := by
  simp_all [canStep]

theorem freePick_mem_enabledAgents {s : State} (h : s.fault = none) : freePick s ∈ enabledAgents s := by
  have hedge : Agent.pinEdge ∈ enabledAgents s := by simp [enabledAgents, allAgents, canStep, h]
  have hlt := Nat.mod_lt (Config.freeChoice s.draws) (List.length_pos_of_mem hedge)
  rw [freePick, List.getD_eq_getElem _ _ hlt]
  exact List.getElem_mem hlt

/-- Settles O15: the scheduled agent is taken only when its step is enabled, and the free choice is among the enabled. -/
theorem chosenAgentIsEnabled : Obligations.ChosenAgentIsEnabled := by
  intro s h
  have hfree : canStep (freePick s) s = true := (List.mem_filter.1 (freePick_mem_enabledAgents h)).2
  unfold pick
  split
  · split
    · assumption
    · exact hfree
  · exact hfree

theorem pick_of_scheduled {a : Agent} {l : List Agent} {s : State} (he : canStep a s = true) (hs : s.schedule = a :: l) :
    pick s = a := by
  simp [pick, hs, he]

/-- What no agent's step touches: CORRECT_CONFIG (D18), and the schedule with its count of draws, which only `advanceSchedule` moves
on. -/
structure KeepsRunData (s t : State) : Prop where
  correctConfig : t.correctConfig = s.correctConfig
  schedule : t.schedule = s.schedule
  draws : t.draws = s.draws

theorem exec_keepsRunData {i : Instr} {s t : State} (h : exec i s = .next t) : KeepsRunData s t := by
  cases exec_branch h <;> constructor <;> simp

theorem isr_keepsRunData {src : IrqSource} {i : Instr} {s u : State} (h : exec i (s.enterIsr src) = .next u) :
    KeepsRunData s u.leaveIsr := by
  obtain ⟨hc, hs, hd⟩ := exec_keepsRunData h
  exact ⟨hc, hs, hd⟩

theorem agentStep_keepsRunData {a : Agent} {s t : State} (he : canStep a s = true) (h : agentStep a s = .next t) :
    KeepsRunData s t := by
  obtain ⟨rfl, w, rest, -, hi⟩ | ⟨rfl, rfl⟩ | ⟨rfl, u, hu, rfl⟩ | ⟨rfl, u, hu, rfl⟩ | ⟨rfl, rfl⟩ := agentStep_cases he h
  · obtain ⟨c, -, rfl⟩ | ⟨i, u, -, hu, rfl⟩ := issueWord_cases hi
    · constructor <;> rfl
    · obtain ⟨hc, hs, hd⟩ := exec_keepsRunData hu
      exact ⟨hc, hs, hd⟩
  · obtain h | h := timerFire_cases s <;> rw [h] <;> constructor <;> rfl
  · exact isr_keepsRunData hu
  · exact isr_keepsRunData hu
  · constructor <;> rfl

theorem issueWord_total (w : Word) (rest : HostProgram) (s : State) : ∃ t, issueWord w rest s = .next t := by
  cases hw : decodeAndCheck w with
  | run i =>
    obtain ⟨u, hu⟩ := exec_total i s
    exact ⟨u.hostAdvance rest, by simp [issueWord, hw, hu]⟩
  | raises c => exact ⟨(s.raise c w.toNat).hostAdvance rest, by simp [issueWord, hw]⟩

theorem dispatchIsr_total (src : IrqSource) (s : State) : ∃ t, dispatchIsr src s = .next t := by
  obtain ⟨u, hu⟩ := exec_total (isrBody src) (s.enterIsr src)
  exact ⟨u.leaveIsr, by simp [dispatchIsr, hu]⟩

theorem agentStep_total (a : Agent) (s : State) : ∃ t, agentStep a s = .next t := by
  cases a with
  | host =>
    cases hw : s.program.nextWord s.res with
    | none => exact ⟨s, by simp [agentStep, hostStep, hw]⟩
    | some next => simpa [agentStep, hostStep_of_nextWord hw] using issueWord_total next.1 next.2 s
  | timerFire => exact ⟨timerFire s, rfl⟩
  | timerIsr => exact dispatchIsr_total .tmr s
  | pinChangeIsr => exact dispatchIsr_total .pc s
  | pinEdge => exact ⟨pinEdge s, rfl⟩

/-- Settles O16: the scheduled agent's step answers a next state, and the choice used up is the schedule's head. -/
theorem anyEnabledStepMayRunNext : Obligations.AnyEnabledStepMayRunNext := by
  intro s a l he hs
  obtain ⟨t, ht⟩ := agentStep_total a s
  obtain ⟨-, hschedule, hdraws⟩ := agentStep_keepsRunData he ht
  refine ⟨t, ht, ?_⟩
  rw [step_of_running (fault_of_canStep he), pick_of_scheduled he hs, ht, mapNext_next, State.advanceSchedule, hschedule, hdraws, hs]
  rfl

/-! ### The account of ticks (R61) -/

@[simp] theorem tickCount_append (h g : List Event) : tickCount (h ++ g) = tickCount h + tickCount g := by
  induction h using tickCount.induct with
  | case1 => simp [tickCount]
  | case2 v h ih => simp [tickCount, ih, Nat.add_right_comm]
  | case3 e h he ih => simp [tickCount, ih]

@[simp] theorem fireCount_append (h g : List Event) : fireCount (h ++ g) = fireCount h + fireCount g := by
  induction h using fireCount.induct with
  | case1 => simp [fireCount]
  | case2 h ih => simp [fireCount, ih, Nat.add_right_comm]
  | case3 e h he ih => simp [fireCount, ih]

theorem exec_tickCount {i : Instr} {s t : State} (h : exec i s = .next t) :
    tickCount t.hist = tickCount s.hist + if i = .clkTick then 1 else 0 := by
  cases exec_branch h <;> simp [tickCount]

theorem exec_fireCount {i : Instr} {s t : State} (h : exec i s = .next t) : fireCount t.hist = fireCount s.hist := by
  cases exec_branch h <;> simp [fireCount]

/-- The timer ISR's step counts one tick, and no other agent's step does: the host never issues CLK_TICK (R77). -/
theorem agentStep_tickCount {a : Agent} {s t : State} (he : canStep a s = true) (h : agentStep a s = .next t) :
    tickCount t.hist = tickCount s.hist + if a = .timerIsr then 1 else 0 := by
  obtain ⟨rfl, w, rest, -, hi⟩ | ⟨rfl, rfl⟩ | ⟨rfl, u, hu, rfl⟩ | ⟨rfl, u, hu, rfl⟩ | ⟨rfl, rfl⟩ := agentStep_cases he h
  · obtain ⟨c, -, rfl⟩ | ⟨i, u, hi, hu, rfl⟩ := issueWord_cases hi
    · simp [tickCount]
    · have hTick : i ≠ .clkTick := by rintro rfl; cases (decodeAndCheck_run hi).2
      simpa [hTick] using exec_tickCount hu
  · obtain h | h := timerFire_cases s <;> simp [h, tickCount]
  · simpa using exec_tickCount hu
  · simpa using exec_tickCount hu
  · simp [pinEdge, tickCount]

/-- A period that elapses becomes the pending request (R101), and only the timer ISR's step takes the request (R229). -/
theorem agentStep_fireCount {a : Agent} {s t : State} (he : canStep a s = true) (h : agentStep a s = .next t) :
    fireCount t.hist + s.tmrPf.toNat = fireCount s.hist + t.tmrPf.toNat + if a = .timerIsr then 1 else 0 := by
  obtain ⟨rfl, w, rest, -, hi⟩ | ⟨rfl, rfl⟩ | ⟨rfl, u, hu, rfl⟩ | ⟨rfl, u, hu, rfl⟩ | ⟨rfl, rfl⟩ := agentStep_cases he h
  · obtain ⟨c, -, rfl⟩ | ⟨i, u, -, hu, rfl⟩ := issueWord_cases hi
    · simp [fireCount]
    · simp [exec_fireCount hu, (exec_writesOnlyItsCells hu).tmrPf]
  · cases hpf : s.tmrPf with
    | false => simp [timerFire_request hpf, fireCount]
    | true => simp [timerFire_overrun hpf, fireCount, hpf]
  · have hpf : s.tmrPf = true := by simp_all [canStep]
    simp [exec_fireCount hu, (exec_writesOnlyItsCells hu).tmrPf, hpf]
  · have hsrc : (IrqSource.pc != .tmr) = true := by decide
    simp [exec_fireCount hu, (exec_writesOnlyItsCells hu).tmrPf, hsrc]
  · simp [pinEdge, fireCount]

/-- Settles O25: the chosen agent's step adds to the fires, the ticks and the request in balance. -/
theorem ticksStayAccounted : Obligations.TicksStayAccounted := by
  intro s t hacc h
  obtain ⟨hf, u, hu, rfl⟩ := step_cases h
  have he := chosenAgentIsEnabled s hf
  have hticks := agentStep_tickCount he hu
  have hfires := agentStep_fireCount he hu
  simp only [TicksAccounted, State.advanceSchedule_hist, State.advanceSchedule_tmrPf] at *
  omega

end Sys2Proof.Machine

/-!
The statements about the operation word (spec 30_encoding.md): decoding and encoding (R71 to R75), the opcode table (R72), the words
that spell nothing (R76), the checks on an issued word (R77, R78), the assembler (R79 to R81) and the result port (R82). A word and
its fields are read as numbers first, so that what encoding and decoding do to each other is arithmetic.
-/

namespace Sys2Proof

/-! ### A word and its fields as numbers (R71) -/

theorem toNat_field (w : Word) (start len : Nat) : (w.extractLsb' start len).toNat = w.toNat / 2 ^ start % 2 ^ len := by
  rw [BitVec.extractLsb'_toNat, Nat.shiftRight_eq_div_pow]

theorem field_eq_iff {w : Word} {start len : Nat} {v : BitVec len} :
    w.extractLsb' start len = v ↔ w.toNat / 2 ^ start % 2 ^ len = v.toNat := by
  rw [← BitVec.toNat_inj, toNat_field]

theorem field_eq_zero_iff {w : Word} {start len : Nat} : w.extractLsb' start len = 0#len ↔ w.toNat / 2 ^ start % 2 ^ len = 0 := by
  simp [field_eq_iff]

theorem wordSel_eq_iff {w : Word} {v : BitVec 4} : wordSel w = v ↔ w.toNat % 16 = v.toNat := by
  simp [wordSel, field_eq_iff]

theorem wordOpnd_eq_iff {w : Word} {v : Millis} : wordOpnd w = v ↔ w.toNat / 2 ^ 4 = v.toNat := by
  rw [wordOpnd, field_eq_iff]
  omega

theorem bit_eq_field (w : Word) (k : Nat) : w.getLsbD k = decide (w.extractLsb' k 1 = 1#1) := by
  rw [decide_eq_decide.2 field_eq_iff]
  exact Nat.testBit_eq_decide_div_mod_eq

theorem toNat_bit (w : Word) (k : Nat) : (w.getLsbD k).toNat = w.toNat / 2 ^ k % 2 :=
  Nat.toNat_testBit w.toNat k

theorem bit_eq_iff {w : Word} {k : Nat} {b : Bool} : w.getLsbD k = b ↔ w.toNat / 2 ^ k % 2 = b.toNat := by
  rw [← toNat_bit]
  cases w.getLsbD k <;> cases b <;> decide

/-! ### The word of an operation as a number (R73 to R75) -/

/-- What the operands add to the word: each field's value at the field's place. -/
def Instr.operandNumber : Instr → Nat
  | .cmdPublish a c r => r.toNat * 2 ^ 20 + c.toNat * 2 ^ 12 + a.toNat * 2 ^ 4
  | .posSet p => p.toNat * 2 ^ 4
  | .hostDelay ms => ms.toNat * 2 ^ 4
  | .clkStart | .clkTick | .clkNow | .cmdTake | .edgeSample | .edgeEnable | .posGet | .posToggle | .irqEnable => 0

/-- Fields that do not overlap add up. -/
theorem toNat_or_of_dvd {x y : Word} (k : Nat) (hx : 2 ^ k ∣ x.toNat) (hy : y.toNat < 2 ^ k) :
    (x ||| y).toNat = x.toNat + y.toNat := by
  obtain ⟨q, hq⟩ := hx
  rw [BitVec.toNat_or, hq, Nat.two_pow_add_eq_or_of_lt hy]

theorem toNat_place {n : Nat} (v : BitVec n) (k : Nat) (h : n + k ≤ 32) :
    (v.setWidth 32 <<< k).toNat = v.toNat * 2 ^ k := by
  rw [BitVec.toNat_shiftLeft, BitVec.toNat_setWidth_of_le (by omega), Nat.shiftLeft_eq, Nat.mod_eq_of_lt]
  calc v.toNat * 2 ^ k < 2 ^ n * 2 ^ k := Nat.mul_lt_mul_of_pos_right v.isLt (Nat.two_pow_pos k)
    _ ≤ 2 ^ 32 := by rw [← Nat.pow_add]; exact Nat.pow_le_pow_right (by decide) h

theorem toNat_operandBits (i : Instr) : i.operandBits.toNat = i.operandNumber := by
  cases i with
  | cmdPublish a c r =>
    have ha := toNat_place a 4 (by decide)
    have hc := toNat_place c 12 (by decide)
    have hr := toNat_place (BitVec.ofBool r) 20 (by decide)
    have hrc := toNat_or_of_dvd (y := c.setWidth 32 <<< 12) 20 (Dvd.intro_left _ hr.symm) (by omega)
    rw [Instr.operandBits, toNat_or_of_dvd 12 (by omega) (by omega), hrc, ha, hc, hr, BitVec.toNat_ofBool]
    rfl
  | posSet p => exact toNat_place p 4 (by decide)
  | hostDelay ms => exact toNat_place ms 4 (by decide)
  | clkStart | clkTick | clkNow | cmdTake | edgeSample | edgeEnable | posGet | posToggle | irqEnable => rfl

theorem dvd_operandNumber (i : Instr) : 2 ^ 4 ∣ i.operandNumber := by
  cases i <;> simp only [Instr.operandNumber] <;> omega

theorem toNat_encode (i : Instr) : (encode i).toNat = i.operandNumber + i.sel.toNat := by
  have hsel : (i.sel.setWidth 32).toNat = i.sel.toNat := BitVec.toNat_setWidth_of_le (by decide)
  rw [encode, toNat_or_of_dvd 4, toNat_operandBits, hsel]
  · rw [toNat_operandBits]; exact dvd_operandNumber i
  · rw [hsel]; exact i.sel.isLt

theorem toNat_encode_cmdPublish (a c : Byte) (r : Bool) :
    (encode (.cmdPublish a c r)).toNat = r.toNat * 2 ^ 20 + c.toNat * 2 ^ 12 + a.toNat * 2 ^ 4 + 4 := toNat_encode _

theorem toNat_encode_posSet (p : Half) : (encode (.posSet p)).toNat = p.toNat * 2 ^ 4 + 8 := toNat_encode _

theorem toNat_encode_hostDelay (ms : Millis) : (encode (.hostDelay ms)).toNat = ms.toNat * 2 ^ 4 + 12 := toNat_encode _

theorem wordSel_encode (i : Instr) : wordSel (encode i) = i.sel := by
  have := dvd_operandNumber i
  rw [wordSel_eq_iff, toNat_encode]
  omega

/-! ### What the decoder answers -/

/-- The selectors of no operation (R72, R76). -/
def reservedSelectors : List (BitVec 4) := [0x0, 0xD, 0xE, 0xF]

/-- The selectors of the operations without operand (R72, R75). -/
def bareSelectors : List (BitVec 4) := [0x1, 0x2, 0x3, 0x5, 0x6, 0x7, 0x9, 0xA, 0xB]

/-- The words R76 leaves without an operation: a reserved selector or a set must-be-zero bit. -/
def SpellsNothing (w : Word) : Prop :=
  wordSel w ∈ reservedSelectors ∨
  (wordSel w = 0x4#4 ∧ w.extractLsb' 21 11 ≠ 0#11) ∨
  (wordSel w = 0x8#4 ∧ w.extractLsb' 20 12 ≠ 0#12) ∨
  (wordSel w ∈ bareSelectors ∧ wordOpnd w ≠ 0#28)

/-- The decoder answers `d` for the word, by one of the operand layouts (R73 to R75) or by R76. -/
inductive DecodeBranch (w : Word) : Decoded → Prop
  | bare {i : Instr} (hsel : wordSel w = i.sel) (hi : i.sel ∈ bareSelectors) (hz : wordOpnd w = 0#28) : DecodeBranch w (.op i)
  | cmdPublish (hsel : wordSel w = 0x4#4) (hz : w.extractLsb' 21 11 = 0#11) :
      DecodeBranch w (.op (.cmdPublish (w.extractLsb' 4 8) (w.extractLsb' 12 8) (w.getLsbD 20)))
  | posSet (hsel : wordSel w = 0x8#4) (hz : w.extractLsb' 20 12 = 0#12) : DecodeBranch w (.op (.posSet (w.extractLsb' 4 16)))
  | hostDelay (hsel : wordSel w = 0xC#4) : DecodeBranch w (.op (.hostDelay (wordOpnd w)))
  | rejected {why : DecodeReject} (h : SpellsNothing w) : DecodeBranch w (.rejected why)

theorem decodeBare_branch {w : Word} {i : Instr} (hsel : wordSel w = i.sel) (hi : i.sel ∈ bareSelectors) :
    DecodeBranch w (decodeBare w i) := by
  unfold decodeBare
  split
  · next hz => exact .bare hsel hi hz
  · next hz => exact .rejected (.inr (.inr (.inr ⟨hsel ▸ hi, hz⟩)))

theorem decode_branch (w : Word) : DecodeBranch w (decode w) := by
  have sel_eq {v : BitVec 4} (h : (wordSel w).toNat = v.toNat) : wordSel w = v := BitVec.eq_of_toNat_eq h
  unfold decode
  split
  case h_4 h =>
    unfold decodePublish
    split
    · next hz => exact .cmdPublish (sel_eq h) hz
    · next hz => exact .rejected (.inr (.inl ⟨sel_eq h, hz⟩))
  case h_8 h =>
    unfold decodePosSet
    split
    · next hz => exact .posSet (sel_eq h) hz
    · next hz => exact .rejected (.inr (.inr (.inl ⟨sel_eq h, hz⟩)))
  case h_12 h => exact .hostDelay (sel_eq h)
  case h_13 =>
    refine .rejected (.inl ?_)
    generalize wordSel w = v at *
    revert v
    decide
  all_goals next h => exact decodeBare_branch (sel_eq h) (by decide)

theorem spellsNothing_of_rejected {w : Word} {why : DecodeReject} (h : decode w = .rejected why) : SpellsNothing w := by
  have hb := h ▸ decode_branch w
  cases hb with | rejected h => exact h

theorem exists_op_of_not_spellsNothing {w : Word} (h : ¬ SpellsNothing w) : ∃ i, decode w = .op i := by
  cases hd : decode w with
  | op i => exact ⟨i, rfl⟩
  | rejected why => exact absurd (spellsNothing_of_rejected hd) h

theorem decode_cmdPublish {w : Word} (hsel : wordSel w = 0x4#4) (hz : w.extractLsb' 21 11 = 0#11) :
    decode w = .op (.cmdPublish (w.extractLsb' 4 8) (w.extractLsb' 12 8) (w.getLsbD 20)) := by
  simp [decode, hsel, decodePublish, hz]

theorem decode_posSet {w : Word} (hsel : wordSel w = 0x8#4) (hz : w.extractLsb' 20 12 = 0#12) :
    decode w = .op (.posSet (w.extractLsb' 4 16)) := by
  simp [decode, hsel, decodePosSet, hz]

theorem decode_hostDelay {w : Word} (hsel : wordSel w = 0xC#4) : decode w = .op (.hostDelay (wordOpnd w)) := by
  simp [decode, hsel]

/-! ### Encoding and decoding undo each other -/

theorem operandNumber_of_bare {i : Instr} (h : i.sel ∈ bareSelectors) : i.operandNumber = 0 := by
  cases i with
  | cmdPublish | posSet | hostDelay => simp [Instr.sel, bareSelectors] at h
  | clkStart | clkTick | clkNow | cmdTake | edgeSample | edgeEnable | posGet | posToggle | irqEnable => rfl

/-- Settles O2: the selector and the operand fields of each layout make up the whole word. -/
theorem encodeOfDecodeIsIdentity : Obligations.EncodeOfDecodeIsIdentity := by
  intro w i h
  have hb := h ▸ decode_branch w
  apply BitVec.eq_of_toNat_eq
  cases hb with
  | bare hsel hi hz =>
    have hlow := wordSel_eq_iff.1 hsel
    have hhigh : w.toNat / 2 ^ 4 = 0 := wordOpnd_eq_iff.1 hz
    rw [toNat_encode, operandNumber_of_bare hi]
    omega
  | cmdPublish hsel hz =>
    have hlow : w.toNat % 16 = 4 := wordSel_eq_iff.1 hsel
    have hhigh := field_eq_zero_iff.1 hz
    rw [toNat_encode_cmdPublish, toNat_field, toNat_field, toNat_bit]
    omega
  | posSet hsel hz =>
    have hlow : w.toNat % 16 = 8 := wordSel_eq_iff.1 hsel
    have hhigh := field_eq_zero_iff.1 hz
    rw [toNat_encode_posSet, toNat_field]
    omega
  | hostDelay hsel =>
    have hlow : w.toNat % 16 = 12 := wordSel_eq_iff.1 hsel
    rw [toNat_encode_hostDelay, wordOpnd, toNat_field]
    omega

/-- Settles O1: each operand stands alone in its field, so the decoder's quotients and remainders find it. -/
theorem decodeOfEncodeIsIdentity : Obligations.DecodeOfEncodeIsIdentity := by
  intro i
  cases i with
  | cmdPublish a c r =>
    have hsel := wordSel_encode (.cmdPublish a c r)
    have hw := toNat_encode_cmdPublish a c r
    generalize encode (.cmdPublish a c r) = w at *
    have hr := r.toNat_lt
    have hz : w.extractLsb' 21 11 = 0#11 := field_eq_zero_iff.2 (by omega)
    have ha : w.extractLsb' 4 8 = a := field_eq_iff.2 (by omega)
    have hc : w.extractLsb' 12 8 = c := field_eq_iff.2 (by omega)
    have hbit : w.getLsbD 20 = r := bit_eq_iff.2 (by omega)
    rw [decode_cmdPublish hsel hz, ha, hc, hbit]
  | posSet p =>
    have hsel := wordSel_encode (.posSet p)
    have hw := toNat_encode_posSet p
    generalize encode (.posSet p) = w at *
    have hz : w.extractLsb' 20 12 = 0#12 := field_eq_zero_iff.2 (by omega)
    have hp : w.extractLsb' 4 16 = p := field_eq_iff.2 (by omega)
    rw [decode_posSet hsel hz, hp]
  | hostDelay ms =>
    have hms : wordOpnd (encode (.hostDelay ms)) = ms := wordOpnd_eq_iff.2 (by rw [toNat_encode_hostDelay]; omega)
    rw [decode_hostDelay (wordSel_encode _), hms]
  | clkStart | clkTick | clkNow | cmdTake | edgeSample | edgeEnable | posGet | posToggle | irqEnable => rfl

/-! ### Clear must-be-zero bits -/

/-- The first of the operand bits that must be zero under a selector (R73 to R75); 32 where there is none. -/
def zeroFrom (sel : BitVec 4) : Nat :=
  if sel = 0x4#4 then 21 else if sel = 0x8#4 then 20 else if sel = 0xC#4 then 32 else 4

theorem four_le_zeroFrom (v : BitVec 4) : 4 ≤ zeroFrom v := by
  unfold zeroFrom
  split_ifs <;> decide

theorem zeroFrom_of_bare {v : BitVec 4} (h : v ∈ bareSelectors) : zeroFrom v = 4 := by
  revert v
  decide

theorem encode_lt (i : Instr) : (encode i).toNat < 2 ^ zeroFrom i.sel := by
  cases i with
  | cmdPublish a c r =>
    have := r.toNat_lt
    rw [toNat_encode_cmdPublish, show zeroFrom (Instr.cmdPublish a c r).sel = 21 from rfl]
    omega
  | posSet p => rw [toNat_encode_posSet, show zeroFrom (Instr.posSet p).sel = 20 from rfl]; omega
  | hostDelay ms => exact (encode (.hostDelay ms)).isLt
  | clkStart | clkTick | clkNow | cmdTake | edgeSample | edgeEnable | posGet | posToggle | irqEnable => decide

theorem sel_not_reserved (i : Instr) : i.sel ∉ reservedSelectors := by
  cases i <;> simp [Instr.sel, reservedSelectors]

theorem not_spellsNothing_of_lt {w : Word} (hsel : wordSel w ∉ reservedSelectors) (hlt : w.toNat < 2 ^ zeroFrom (wordSel w)) :
    ¬ SpellsNothing w := by
  rintro (hr | ⟨h4, hz⟩ | ⟨h8, hz⟩ | ⟨hb, hz⟩)
  · exact hsel hr
  · rw [h4] at hlt
    exact hz (field_eq_zero_iff.2 (by change _ < 2 ^ 21 at hlt; omega))
  · rw [h8] at hlt
    exact hz (field_eq_zero_iff.2 (by change _ < 2 ^ 20 at hlt; omega))
  · rw [zeroFrom_of_bare hb] at hlt
    exact hz (field_eq_zero_iff.2 (by omega))

/-- A word that spells an operation is that operation's word, which leaves every must-be-zero bit clear. -/
theorem not_spellsNothing {w : Word} {i : Instr} (h : decode w = .op i) : ¬ SpellsNothing w := by
  obtain rfl := encodeOfDecodeIsIdentity w i h
  have hsel := wordSel_encode i
  exact not_spellsNothing_of_lt (hsel ▸ sel_not_reserved i) (hsel ▸ encode_lt i)

/-! ### The opcode table (R72) -/

/-- The mask of a row: the selector's bits, and those from `k` on, which must be zero. -/
def rowMask (k : Nat) : Word := BitVec.allOnes 32 <<< k ||| (BitVec.allOnes 4).setWidth 32

theorem rowMask_bit (k j : Nat) (hj : j < 32) : (rowMask k).getLsbD j = decide (k ≤ j ∨ j < 4) := by
  simp only [rowMask, BitVec.getLsbD_or, BitVec.getLsbD_shiftLeft, BitVec.getLsbD_allOnes, BitVec.getLsbD_setWidth]
  grind

theorem masked_eq_iff_bits {w v : Word} {k : Nat} :
    w &&& rowMask k = v ↔ ∀ j < 32, (w.getLsbD j && decide (k ≤ j ∨ j < 4)) = v.getLsbD j := by
  rw [BitVec.eq_of_getLsbD_eq_iff]
  refine forall₂_congr fun j hj => ?_
  rw [BitVec.getLsbD_and, rowMask_bit k j hj]

theorem wordSel_eq_iff_bits {w : Word} {v : BitVec 4} : wordSel w = v ↔ ∀ j < 4, w.getLsbD j = v.getLsbD j := by
  rw [BitVec.eq_of_getLsbD_eq_iff]
  refine forall₂_congr fun j hj => ?_
  simp [wordSel, hj]

theorem lt_two_pow_iff_bits {w : Word} {k : Nat} : w.toNat < 2 ^ k ↔ ∀ j, k ≤ j → w.getLsbD j = false :=
  ⟨fun h _ hj => Nat.testBit_lt_two_pow (h.trans_le (Nat.pow_le_pow_right (by decide) hj)), Nat.lt_pow_two_of_testBit _⟩

/-- A masked word is a selector when its low bits are the selector's and the bits that must be zero are. -/
theorem masked_eq_iff {w : Word} {v : BitVec 4} {k : Nat} (hk : 4 ≤ k) :
    w &&& rowMask k = v.setWidth 32 ↔ wordSel w = v ∧ w.toNat < 2 ^ k := by
  rw [masked_eq_iff_bits, wordSel_eq_iff_bits, lt_two_pow_iff_bits]
  refine ⟨fun h => ⟨fun j hj => ?_, fun j hj => ?_⟩, fun ⟨hlow, hhigh⟩ j hj => ?_⟩
  · simpa [hj, show j < 32 by omega] using h j (by omega)
  · by_cases h32 : j < 32
    · simpa [hj, v.getLsbD_of_ge j (hk.trans hj)] using h j h32
    · exact w.getLsbD_of_ge j (by omega)
  · obtain hj4 | hj4 := Nat.lt_or_ge j 4
    · simp only [hlow j hj4, hj4, hj, or_true, decide_true, Bool.and_true, BitVec.getLsbD_setWidth, Bool.true_and]
    · by_cases hkj : k ≤ j
      · simp [hhigh j hkj, v.getLsbD_of_ge j hj4]
      · simp [hkj, hj4]

/-- The table's row for an operation: its mask looks at the selector and at the bits that must be zero. -/
def Instr.row (i : Instr) : OpcodeRow :=
  ⟨i.mnemonic, i.sel.setWidth 32, rowMask (zeroFrom i.sel)⟩

theorem exists_row_of_mem {r : OpcodeRow} (h : r ∈ opcodeTable) : ∃ i : Instr, r = i.row := by
  have rows : opcodeTable = [Instr.clkStart, .clkTick, .clkNow, .cmdPublish 0 0 false, .cmdTake, .edgeSample, .edgeEnable,
    .posSet 0, .posGet, .posToggle, .irqEnable, .hostDelay 0].map Instr.row := by decide
  rw [rows, List.mem_map] at h
  obtain ⟨i, -, rfl⟩ := h
  exact ⟨i, rfl⟩

theorem row_covers_iff (i : Instr) (w : Word) :
    i.row.covers w = true ↔ wordSel w = i.sel ∧ w.toNat < 2 ^ zeroFrom i.sel := by
  rw [OpcodeRow.covers, beq_iff_eq]
  exact masked_eq_iff (four_le_zeroFrom i.sel)

theorem mnemonic_eq_iff_sel_eq (i j : Instr) : i.mnemonic = j.mnemonic ↔ i.sel = j.sel := by
  cases i <;> cases j <;> simp [Instr.mnemonic, Instr.sel]

/-- Settles O3: a row matches the words with its selector and clear must-be-zero bits, which are the words of its operation. -/
theorem decodeAgreesWithOpcodeTable : Obligations.DecodeAgreesWithOpcodeTable := by
  refine fun w => ⟨fun i h r hr => ?_, fun why h r hr => ?_⟩
  · obtain ⟨j, rfl⟩ := exists_row_of_mem hr
    obtain rfl := encodeOfDecodeIsIdentity w i h
    rw [row_covers_iff, wordSel_encode]
    change _ ↔ j.mnemonic = _
    rw [mnemonic_eq_iff_sel_eq]
    exact ⟨fun ⟨hsel, _⟩ => hsel.symm, fun hsel => ⟨hsel.symm, hsel ▸ encode_lt i⟩⟩
  · obtain ⟨j, rfl⟩ := exists_row_of_mem hr
    refine Bool.eq_false_iff.2 fun hc => ?_
    obtain ⟨hsel, hlt⟩ := (row_covers_iff j w).1 hc
    exact not_spellsNothing_of_lt (hsel ▸ sel_not_reserved j) (hsel ▸ hlt) (spellsNothing_of_rejected h)

end Sys2Proof

namespace Sys2Proof.Machine

/-! ### The checks on an issued word (R76 to R78) -/

theorem decodeAndCheck_of_spellsNothing {w : Word} (h : SpellsNothing w) : decodeAndCheck w = .raises .undefinedOp := by
  cases hd : decode w with
  | op i => exact absurd h (not_spellsNothing hd)
  | rejected why => simp [decodeAndCheck, hd]

theorem decodeAndCheck_of_isrBody {w : Word} {i : Instr} (hd : decode w = .op i) (h : i.hostMayIssue = false) :
    decodeAndCheck w = .raises .illegalContext := by
  simp [decodeAndCheck, hd, h]

theorem decodeAndCheck_of_hostMayIssue {w : Word} {i : Instr} (hd : decode w = .op i) (h : i.hostMayIssue = true) :
    decodeAndCheck w = .run i := by
  simp [decodeAndCheck, hd, h]

theorem hostMayIssue_eq_false_iff (i : Instr) : i.hostMayIssue = false ↔ i.sel ∈ [0x2#4, 0x6#4] := by
  cases i <;> simp [Instr.hostMayIssue, Instr.sel]

/-- A decoded operation is the one of the word's selector, each operand the value of its field (R73 to R75). -/
theorem readsFields_of_decode {w : Word} {i : Instr} (h : decode w = .op i) :
    i.sel = wordSel w ∧
    (∀ a c r, i = .cmdPublish a c r →
      a = w.extractLsb' 4 8 ∧ c = w.extractLsb' 12 8 ∧ r = decide (w.extractLsb' 20 1 = 1#1)) ∧
    (∀ p, i = .posSet p → p = w.extractLsb' 4 16) ∧
    (∀ ms, i = .hostDelay ms → ms = w.extractLsb' 4 28) := by
  have hb := h ▸ decode_branch w
  cases hb with
  | bare hsel hi hz =>
    cases i with
    | cmdPublish | posSet | hostDelay => simp [Instr.sel, bareSelectors] at hi
    | clkStart | clkTick | clkNow | cmdTake | edgeSample | edgeEnable | posGet | posToggle | irqEnable =>
      exact ⟨hsel.symm, nofun, nofun, nofun⟩
  | cmdPublish hsel hz => exact ⟨hsel.symm, fun _ _ _ h => by cases h; exact ⟨rfl, rfl, bit_eq_field w 20⟩, nofun, nofun⟩
  | posSet hsel hz => exact ⟨hsel.symm, nofun, fun _ h => by cases h; rfl, nofun⟩
  | hostDelay hsel => exact ⟨hsel.symm, nofun, nofun, fun _ h => by cases h; rfl⟩

/-- Settles O4: the first four checks together are R76, the fifth is R77, and a word that passes them is run. -/
theorem issuedWordChecksInOrder : Obligations.IssuedWordChecksInOrder := by
  intro w
  by_cases hn : SpellsNothing w
  · have hc := decodeAndCheck_of_spellsNothing hn
    split_ifs with h0 h4 h8 hb
    iterate 4 exact hc
    all_goals exact absurd hn (not_or.2 ⟨h0, not_or.2 ⟨h4, not_or.2 ⟨h8, hb⟩⟩⟩)
  · obtain ⟨i, hd⟩ := exists_op_of_not_spellsNothing hn
    obtain ⟨hsel, hoperands⟩ := readsFields_of_decode hd
    split_ifs with h0 h4 h8 hb hisr
    · exact absurd (.inl h0) hn
    · exact absurd (.inr (.inl h4)) hn
    · exact absurd (.inr (.inr (.inl h8))) hn
    · exact absurd (.inr (.inr (.inr hb))) hn
    · exact decodeAndCheck_of_isrBody hd ((hostMayIssue_eq_false_iff i).2 (hsel ▸ hisr))
    · have hmay : i.hostMayIssue = true := by
        rwa [← hsel, ← hostMayIssue_eq_false_iff, Bool.not_eq_false] at hisr
      exact ⟨i, decodeAndCheck_of_hostMayIssue hd hmay, hsel, hoperands⟩

theorem issueWord_of_raises {w : Word} {c : FaultCode} (h : decodeAndCheck w = .raises c) (rest : HostProgram) (s : State) :
    issueWord w rest s = .next ((s.raise c w.toNat).hostAdvance rest) := by
  simp [issueWord, h]

/-- Settles O5: such a word decodes to nothing, so the first check raises. -/
theorem reservedWordRaisesUndefinedOp : Obligations.ReservedWordRaisesUndefinedOp := by
  intro w rest s h
  have hn : SpellsNothing w := h
  exact ⟨fun i hd => not_spellsNothing hd hn, issueWord_of_raises (decodeAndCheck_of_spellsNothing hn) rest s⟩

/-- Settles O6: the word decodes to the ISR body, and the second check raises. -/
theorem isrBodyIssuedByHostFaults : Obligations.IsrBodyIssuedByHostFaults := by
  intro i rest s hi
  have hd := decodeOfEncodeIsIdentity i
  have hmay : i.hostMayIssue = false := by obtain rfl | rfl := hi <;> rfl
  have hc : decodeAndCheck (encode i) = .raises .illegalContext := decodeAndCheck_of_isrBody hd hmay
  exact ⟨hd, issueWord_of_raises hc rest s⟩

/-! ### The assembler (R79 to R81) -/

theorem encode_cmdPublish_ofNat {addr cmd rep : Nat} (ha : addr ≤ 255) (hc : cmd ≤ 255) (hr : rep ≤ 1) :
    encode (.cmdPublish (BitVec.ofNat 8 addr) (BitVec.ofNat 8 cmd) (rep == 1)) =
      BitVec.ofNat 32 (rep * 2 ^ 20 + cmd * 2 ^ 12 + addr * 2 ^ 4 + 4) := by
  have hrep : (rep == 1).toNat = rep := by interval_cases rep <;> rfl
  apply BitVec.eq_of_toNat_eq
  rw [toNat_encode_cmdPublish, hrep]
  simp only [BitVec.toNat_ofNat]
  omega

theorem encode_posSet_ofNat {pos : Nat} (h : pos ≤ 65535) :
    encode (.posSet (BitVec.ofNat 16 pos)) = BitVec.ofNat 32 (pos * 2 ^ 4 + 8) := by
  apply BitVec.eq_of_toNat_eq
  rw [toNat_encode_posSet]
  simp only [BitVec.toNat_ofNat]
  omega

theorem encode_hostDelay_ofNat (ms : Nat) :
    encode (.hostDelay (BitVec.ofNat 28 ms)) = BitVec.ofNat 32 (ms * 2 ^ 4 + 12) := by
  apply BitVec.eq_of_toNat_eq
  rw [toNat_encode_hostDelay]
  simp only [BitVec.toNat_ofNat]
  omega

/-- Settles O8: an operand that fits its field keeps its value there, and the assembler takes no other. -/
theorem assemblerPlacesOperands : Obligations.AssemblerPlacesOperands := by
  refine ⟨fun addr cmd rep => ?_, fun pos => ?_, fun ms => ?_⟩ <;>
    simp only [assemble, AsmLine.wellFormed, Bool.and_eq_true, decide_eq_true_eq, and_assoc] <;> split_ifs with h
  · obtain ⟨ha, hc, hr⟩ := h
    exact congrArg some (encode_cmdPublish_ofNat ha hc hr)
  · rfl
  · exact congrArg some (encode_posSet_ofNat h)
  · rfl
  · exact congrArg some (encode_hostDelay_ofNat ms)
  · rfl

/-- Settles O7: the words are computed; that POS_SET 124 faults when executed (R165) is a fact about every state. -/
theorem workedEncodings : Obligations.WorkedEncodings :=
  ⟨rfl, rfl, rfl, rfl, rfl, rfl, rfl, rfl, rfl, rfl, exec_posSet_outOfRange rfl, rfl, rfl, rfl, rfl, rfl, rfl, rfl, rfl, rfl, rfl,
    rfl, rfl, rfl, rfl⟩

/-! ### The result port (R82) -/

/-- Settles O44: an operation's branches write RES with its own value, or pass it by. -/
theorem resultPortTyping : Obligations.ResultPortTyping := by
  intro i s
  obtain ⟨t, h⟩ := exec_total i s
  refine ⟨t, h, ?_⟩
  cases exec_branch h <;> simp

end Sys2Proof.Machine

/-!
The statements about the Tick Clock (spec 40_tick_clock.md): its operations and TIMER_FIRE (R100 to R104), the ticks a step and a run
count (R102, R105), the difference of two readings (R106), the ticks that cannot be lost (D18), and the agreement of the interrupt
control elements (R100, R101, R140, R142).
-/

namespace Sys2Proof

/-! ### Arithmetic modulo 2^32 (R17) -/

theorem toNat_wrap32 (n : Nat) : (wrap32 n).toNat = n % 2 ^ 32 := BitVec.toNat_ofNat n 32

@[simp] theorem wrap32_toNat (v : Word) : wrap32 v.toNat = v := BitVec.ofNat_toNat 32 v

/-- Counting on from a wrapped value is counting on, wrapped once. -/
@[simp] theorem wrap32_toNat_wrap32_add (n m : Nat) : wrap32 ((wrap32 n).toNat + m) = wrap32 (n + m) := by
  apply BitVec.eq_of_toNat_eq
  simp [toNat_wrap32]

end Sys2Proof

namespace Sys2Proof.Machine

open Sys2Proof.Safety

/-! ### The operations and TIMER_FIRE (R100, R101, R103, R104) -/

/-- Settles O18: the branch of CLK_START with the timer off. -/
theorem clkStartStartsTimer : Obligations.ClkStartStartsTimer := fun _ => exec_clkStart_first

/-- Settles O19: the branch of CLK_START with the timer on. -/
theorem repeatedClkStartFaults : Obligations.RepeatedClkStartFaults := fun _ => exec_clkStart_repeated

/-- Settles O20: CLK_TICK has one branch, in which the critical section leaves GIE as it was. -/
theorem clkTickIncrementsWithWrap : Obligations.ClkTickIncrementsWithWrap := ⟨fun _ => rfl, rfl, rfl⟩

/-- Settles O21: CLK_NOW has one branch. -/
theorem clkNowReadsClock : Obligations.ClkNowReadsClock := fun _ => rfl

theorem canStep_timerFire_iff (s : State) :
    canStep .timerFire s = true ↔ s.fault = none ∧ s.tmrOn = true ∧ (s.correctConfig = false ∨ s.tmrPf = false) := by
  simp [canStep]

/-- Settles O12: TMR_PF decides between the two branches of TIMER_FIRE. -/
theorem timerFireRequestsOrOverruns : Obligations.TimerFireRequestsOrOverruns := fun s =>
  ⟨canStep_timerFire_iff s, fun h => congrArg Host.Outcome.next (timerFire_request h),
    fun h => congrArg Host.Outcome.next (timerFire_overrun h)⟩

/-! ### Steps and runs -/

/-- A step that answers a next state is an enabled step of the chosen agent, and uses up the choice. -/
theorem step_enabled_cases {s t : State} (h : step s = .next t) :
    ∃ u, canStep (pick s) s = true ∧ agentStep (pick s) s = .next u ∧ t = u.advanceSchedule := by
  obtain ⟨hf, u, hu, rfl⟩ := step_cases h
  exact ⟨u, chosenAgentIsEnabled s hf, hu, rfl⟩

section Run

variable {M : Host.Core} {k : Nat} {s t : M.State}

theorem run_succ_cases (h : M.run (k + 1) s = .next t) : ∃ u, M.step s = .next u ∧ M.run k u = .next t := by
  unfold Host.Core.run at h
  split at h
  · next u hu => exact ⟨u, hu, h⟩
  · cases h
  · cases h

/-- What every step makes hold between two states holds along every run, if it is reflexive and transitive. -/
theorem run_relates {R : M.State → M.State → Prop} (hrefl : ∀ s, R s s) (htrans : ∀ s u t, R s u → R u t → R s t)
    (hstep : ∀ s t, M.step s = .next t → R s t) (h : M.run k s = .next t) : R s t := by
  induction k generalizing s with
  | zero => exact Host.Outcome.next.inj h ▸ hrefl s
  | succ k ih =>
    obtain ⟨u, hu, hrun⟩ := run_succ_cases h
    exact htrans s u t (hstep s u hu) (ih hrun)

end Run

/-! ### The ticks of a step and of a run (R102, R105) -/

/-- Settles O24: the chosen agent's step counts a tick if it is the timer ISR's. -/
theorem oneTickPerTimerIsr : Obligations.OneTickPerTimerIsr := by
  intro s t h
  obtain ⟨u, he, hu, rfl⟩ := step_enabled_cases h
  simpa using agentStep_tickCount he hu

theorem agentStep_timerIsr_clk {s t : State} (h : agentStep .timerIsr s = .next t) : t.clk = nextTick s.clk := by
  obtain rfl := Host.Outcome.next.inj h
  rfl

/-- CLK moves with the timer ISR's step, by one tick, and with no other. -/
theorem agentStep_clk {a : Agent} {s t : State} (he : canStep a s = true) (h : agentStep a s = .next t) :
    t.clk = wrap32 (s.clk.toNat + if a = .timerIsr then 1 else 0) := by
  by_cases ha : a = .timerIsr
  · subst ha
    exact agentStep_timerIsr_clk h
  · have hkeep : t.clk = s.clk := not_imp_comm.1 (cellsHaveOnlyTheirWriters a s t he h).1 ha
    simp [ha, hkeep]

/-- From `s` to `t` HIST grew by events whose Ticks CLK has counted. -/
def CountsTicks (s t : State) : Prop :=
  ∃ es, t.hist = s.hist ++ es ∧ t.clk = wrap32 (s.clk.toNat + tickCount es)

theorem CountsTicks.refl (s : State) : CountsTicks s s := ⟨[], by simp [tickCount]⟩

theorem CountsTicks.trans (s u t : State) (hsu : CountsTicks s u) (hut : CountsTicks u t) : CountsTicks s t := by
  obtain ⟨es, hes, hclk⟩ := hsu
  obtain ⟨fs, hfs, hclk'⟩ := hut
  exact ⟨es ++ fs, by simp [hfs, hes], by simp [hclk', hclk, Nat.add_assoc]⟩

/-- The events a step appends hold a Tick exactly when the step moves CLK. -/
theorem step_countsTicks (s t : State) (h : step s = .next t) : CountsTicks s t := by
  obtain ⟨es, hes, -⟩ := noStepReadsHistory s t h
  obtain ⟨u, he, hu, rfl⟩ := step_enabled_cases h
  have hticks := agentStep_tickCount he hu
  rw [State.advanceSchedule_hist] at hes
  rw [hes, tickCount_append, Nat.add_left_cancel_iff] at hticks
  exact ⟨es, hes, by simpa [hticks] using agentStep_clk he hu⟩

/-- Settles O22: each step counts its ticks, and counts add up along the run. -/
theorem clockAdvancesByTicks : Obligations.ClockAdvancesByTicks :=
  fun _ _ _ => run_relates (M := core) (R := CountsTicks) CountsTicks.refl CountsTicks.trans step_countsTicks

/-! ### The difference of two readings (R106) -/

theorem toNat_elapsed_wrap32 (v : Word) {n : Nat} (h : n < 2 ^ 32) : (elapsed v (wrap32 (v.toNat + n))).toNat = n := by
  have hv := v.isLt
  simp only [elapsed, toNat_wrap32]
  omega

/-- Settles O23: adding 2^32 before the subtraction makes up for a wrap between the readings. -/
theorem elapsedCountsTicksAcrossWrap : Obligations.ElapsedCountsTicksAcrossWrap :=
  ⟨fun v _ => toNat_elapsed_wrap32 v, fun _ _ => rfl, rfl⟩

/-! ### No tick is lost with CORRECT_CONFIG (R101, D18) -/

theorem exec_fault_cases {i : Instr} {s t : State} (h : exec i s = .next t) :
    t.fault = s.fault ∨ t.fault = some .startRepeated ∨ t.fault = some .posRange := by
  cases exec_branch h <;> simp

theorem exec_fault_ne_tickOverrun {i : Instr} {s t : State} (hs : s.fault = none) (h : exec i s = .next t) :
    t.fault ≠ some .tickOverrun := by
  obtain h | h | h := exec_fault_cases h <;> simp [h, hs]

/-- Only a TIMER_FIRE that finds a request pending raises TICK_OVERRUN. -/
theorem agentStep_tickOverrun {a : Agent} {s t : State} (he : canStep a s = true) (h : agentStep a s = .next t)
    (ht : t.fault = some .tickOverrun) : a = .timerFire ∧ s.tmrPf = true := by
  have hs := fault_of_canStep he
  obtain ⟨rfl, w, rest, -, hi⟩ | ⟨rfl, rfl⟩ | ⟨rfl, u, hu, rfl⟩ | ⟨rfl, u, hu, rfl⟩ | ⟨rfl, rfl⟩ := agentStep_cases he h
  · obtain ⟨c, hc, rfl⟩ | ⟨i, u, -, hu, rfl⟩ := issueWord_cases hi
    · obtain rfl | rfl := decodeAndCheck_raises hc <;> cases ht
    · exact (exec_fault_ne_tickOverrun hs hu ht).elim
  · cases hpf : s.tmrPf with
    | false => simp [timerFire_request hpf, hs] at ht
    | true => exact ⟨rfl, rfl⟩
  · exact (exec_fault_ne_tickOverrun (s := s.enterIsr .tmr) hs hu ht).elim
  · exact (exec_fault_ne_tickOverrun (s := s.enterIsr .pc) hs hu ht).elim
  · simp [pinEdge, hs] at ht

/-- Settles O26: TIMER_FIRE, alone able to raise it, is not enabled while a request is pending. -/
theorem correctConfigLosesNoTick : Obligations.CorrectConfigLosesNoTick := by
  intro s t hc h
  obtain ⟨u, he, hu, rfl⟩ := step_enabled_cases h
  refine ⟨(agentStep_keepsRunData he hu).correctConfig.trans hc, fun hover => ?_⟩
  obtain ⟨ha, hpf⟩ := agentStep_tickOverrun he hu hover
  rw [ha, canStep_timerFire_iff, hc, hpf] at he
  simp at he

/-! ### The interrupt control elements agree (R100, R101, R140, R142) -/

theorem enterIsr_controlInvariant {s : State} (hs : ControlInvariant s) (src : IrqSource) : ControlInvariant (s.enterIsr src) := by
  obtain ⟨hie, htmr, hpc⟩ := hs
  exact ⟨hie, fun h => htmr (Bool.and_eq_true_iff.1 h).1, fun h => hpc (Bool.and_eq_true_iff.1 h).1⟩

/-- CLK_START sets TMR_ON and TMR_IE together, EDGE_ENABLE only sets PC_IE, and the other operations write none of the elements. -/
theorem exec_controlInvariant {i : Instr} {s t : State} (hs : ControlInvariant s) (h : exec i s = .next t) : ControlInvariant t := by
  obtain ⟨hie, htmr, hpc⟩ := hs
  cases exec_branch h with
  | clkStartFirst => exact ⟨rfl, fun _ => rfl, hpc⟩
  | edgeEnable => exact ⟨hie, htmr, fun _ => rfl⟩
  | _ => exact ⟨hie, htmr, hpc⟩

/-- TIMER_FIRE requests the interrupt of a timer that is on. -/
theorem timerFire_controlInvariant {s : State} (hs : ControlInvariant s) (hon : s.tmrOn = true) : ControlInvariant (timerFire s) := by
  obtain ⟨hie, htmr, hpc⟩ := hs
  obtain h | h := timerFire_cases s <;> rw [h]
  · exact ⟨hie, fun _ => hon, hpc⟩
  · exact ⟨hie, htmr, hpc⟩

/-- PIN_EDGE requests the interrupt only where PC_IE is set. -/
theorem pinEdge_controlInvariant {s : State} (hs : ControlInvariant s) : ControlInvariant (pinEdge s) := by
  obtain ⟨hie, htmr, hpc⟩ := hs
  exact ⟨hie, htmr, fun h => (Bool.or_eq_true_iff.1 h).elim hpc id⟩

theorem agentStep_controlInvariant {a : Agent} {s t : State} (hs : ControlInvariant s) (he : canStep a s = true)
    (h : agentStep a s = .next t) : ControlInvariant t := by
  obtain ⟨rfl, w, rest, -, hi⟩ | ⟨rfl, rfl⟩ | ⟨rfl, u, hu, rfl⟩ | ⟨rfl, u, hu, rfl⟩ | ⟨rfl, rfl⟩ := agentStep_cases he h
  · obtain ⟨c, -, rfl⟩ | ⟨i, u, -, hu, rfl⟩ := issueWord_cases hi
    · exact hs
    · exact (exec_controlInvariant hs hu :)
  · exact timerFire_controlInvariant hs ((canStep_timerFire_iff s).1 he).2.1
  · exact (exec_controlInvariant (enterIsr_controlInvariant hs .tmr) hu :)
  · exact (exec_controlInvariant (enterIsr_controlInvariant hs .pc) hu :)
  · exact pinEdge_controlInvariant hs

/-- Settles O54: the chosen agent's step keeps the agreement. -/
theorem controlElementsStayConsistent : Obligations.ControlElementsStayConsistent := by
  intro s t hs h
  obtain ⟨u, he, hu, rfl⟩ := step_enabled_cases h
  exact (agentStep_controlInvariant hs he hu :)

end Sys2Proof.Machine

/-!
The statements about the Command Buffer (spec 41_command_buffer.md): CMD_PUBLISH (R121) and CMD_TAKE (R122) on any slot, and the law
of the slot over runs (R123). What HIST says of MB is a relation between two states that every logged event, so every step, extends.
-/

namespace Sys2Proof.Machine

open Sys2Proof.Safety

/-! ### The operations (R121, R122) -/

/-- Settles O28: CMD_PUBLISH has one branch, in which the critical section leaves GIE as it was. -/
theorem cmdPublishOverwritesSlot : Obligations.CmdPublishOverwritesSlot := fun _ _ _ _ => rfl

/-- Settles O29: CMD_TAKE has one branch, in which the critical section leaves GIE as it was. -/
theorem cmdTakeReadsAndClears : Obligations.CmdTakeReadsAndClears := fun _ => rfl

/-- Settles O30: the second publish writes over the first, and the first take leaves nothing for the second. -/
theorem latestPublishWins : Obligations.LatestPublishWins := fun s a b =>
  ⟨_, _, _, _, cmdPublishOverwritesSlot a.address a.command a.isRepeat s, cmdPublishOverwritesSlot b.address b.command b.isRepeat _,
    cmdTakeReadsAndClears _, rfl, cmdTakeReadsAndClears _, rfl, rfl⟩

/-! ### What HIST says of MB (R123) -/

@[simp] theorem mailboxAfter_append (m : Option Cmd) (h g : List Event) :
    mailboxAfter m (h ++ g) = mailboxAfter (mailboxAfter m h) g := by
  induction m, h using mailboxAfter.induct with
  | case1 m => rfl
  | case2 m c h ih => simpa [mailboxAfter] using ih
  | case3 m r h ih => simpa [mailboxAfter] using ih
  | case4 m e h hp ht ih => simpa [mailboxAfter] using ih

/-- Every Take in a history that found `m` in the mailbox returned what the events before it had left there. -/
def TakesReturnMailbox (m : Option Cmd) (es : List Event) : Prop :=
  ∀ es1 r es2, es = es1 ++ .take r :: es2 → r = mailboxAfter m es1

theorem takesReturnMailbox_nil (m : Option Cmd) : TakesReturnMailbox m [] := by simp [TakesReturnMailbox]

theorem takesReturnMailbox_singleton {m : Option Cmd} {e : Event} (h : ∀ r, e = .take r → r = m) : TakesReturnMailbox m [e] := by
  intro es1 r es2 hes
  cases es1 with
  | nil => exact h r (List.cons.inj hes).1
  | cons => simp at hes

/-- A Take in a joined history lies in the first part, or in the second, which found what the first left. -/
theorem TakesReturnMailbox.append {m : Option Cmd} {es fs : List Event} (hes : TakesReturnMailbox m es)
    (hfs : TakesReturnMailbox (mailboxAfter m es) fs) : TakesReturnMailbox m (es ++ fs) := by
  intro es1 r es2 hsplit
  obtain ⟨gs, rfl, htake⟩ | ⟨gs, rfl, htake⟩ := List.append_eq_append_iff.1 hsplit
  · simpa using hfs gs r es2 htake
  · obtain ⟨rfl, rfl⟩ | ⟨gs, rfl, -⟩ := List.cons_eq_append_iff.1 htake
    · simpa [mailboxAfter] using hfs [] r es2 rfl
    · exact hes es1 r gs rfl

/-- From `s` to `t` HIST grew by events that tell what MB holds, and whose Takes returned what MB held. -/
def TracksMailbox (s t : State) : Prop :=
  ∃ es, t.hist = s.hist ++ es ∧ t.mb = mailboxAfter s.mb es ∧ TakesReturnMailbox s.mb es

theorem TracksMailbox.of_eq {s t : State} (hhist : t.hist = s.hist) (hmb : t.mb = s.mb) : TracksMailbox s t :=
  ⟨[], by simp [hhist], hmb, takesReturnMailbox_nil _⟩

theorem TracksMailbox.trans (s u t : State) (hsu : TracksMailbox s u) (hut : TracksMailbox u t) : TracksMailbox s t := by
  obtain ⟨es, hes, hmb, htakes⟩ := hsu
  obtain ⟨fs, hfs, hmb', htakes'⟩ := hut
  rw [hmb] at hmb' htakes'
  exact ⟨es ++ fs, by simp [hfs, hes], by simp [hmb'], htakes.append htakes'⟩

/-- One event is logged, and MB moves as it says. -/
theorem TracksMailbox.of_event {s t : State} (e : Event) (hhist : t.hist = s.hist ++ [e]) (hmb : t.mb = mailboxAfter s.mb [e])
    (htake : ∀ r, e = .take r → r = s.mb) : TracksMailbox s t :=
  ⟨[e], hhist, hmb, takesReturnMailbox_singleton htake⟩

theorem publish_tracksMailbox (s : State) (c : Cmd) : TracksMailbox s (s.publish c) :=
  .of_event (.publish c) rfl rfl nofun

/-- CMD_PUBLISH and a complete decode write MB with a Publish, CMD_TAKE with a Take of what it held, and nothing else writes it. -/
theorem exec_tracksMailbox {i : Instr} {s t : State} (h : exec i s = .next t) : TracksMailbox s t := by
  cases exec_branch h with
  | cmdPublish a c r => exact publish_tracksMailbox s ⟨a, c, r⟩
  | cmdTake => exact .of_event (.take s.mb) rfl rfl fun _ h => (Event.take.inj h).symm
  | edgeSampleComplete => exact .trans _ _ _ (publish_tracksMailbox _ _) (.of_event _ rfl rfl nofun)
  | posGet => exact .of_eq rfl rfl
  | _ => exact .of_event _ rfl rfl nofun

theorem agentStep_tracksMailbox {a : Agent} {s t : State} (he : canStep a s = true) (h : agentStep a s = .next t) :
    TracksMailbox s t := by
  obtain ⟨rfl, w, rest, -, hi⟩ | ⟨rfl, rfl⟩ | ⟨rfl, u, hu, rfl⟩ | ⟨rfl, u, hu, rfl⟩ | ⟨rfl, rfl⟩ := agentStep_cases he h
  · obtain ⟨c, -, rfl⟩ | ⟨i, u, -, hu, rfl⟩ := issueWord_cases hi
    · exact .of_event _ rfl rfl nofun
    · exact (exec_tracksMailbox hu :)
  · obtain h | h := timerFire_cases s <;> rw [h] <;> exact .of_event _ rfl rfl nofun
  · exact (exec_tracksMailbox hu :)
  · exact (exec_tracksMailbox hu :)
  · exact .of_event _ rfl rfl nofun

theorem step_tracksMailbox (s t : State) (h : step s = .next t) : TracksMailbox s t := by
  obtain ⟨u, he, hu, rfl⟩ := step_enabled_cases h
  exact (agentStep_tracksMailbox he hu :)

/-- Settles O31: each step's events tell what becomes of MB, and join up along the run. -/
theorem takeReturnsLastPublished : Obligations.TakeReturnsLastPublished :=
  fun _ _ _ => run_relates (M := core) (R := TracksMailbox) (fun _ => .of_eq rfl rfl) TracksMailbox.trans step_tracksMailbox

end Sys2Proof.Machine

/-!
The statements about the Edge Sampler (spec 42_edge_sampler.md): PIN_EDGE (R140), EDGE_SAMPLE (R141, R145), EDGE_ENABLE (R142), and
the decoder's state, which EDGE_SAMPLE alone touches (R147). That a step passes DEC by is one equation: put another value in DEC, and
the same step is taken with that value left there. At the value DEC already holds, it says the step does not write DEC.
-/

namespace Sys2Proof.Machine

/-! ### DEC passed by (R147) -/

/-- Every branch of an operation other than EDGE_SAMPLE is open, and leads the same way, whatever DEC holds. -/
theorem exec_setDec {i : Instr} {s t : State} (hi : i ≠ .edgeSample) (h : exec i s = .next t) (d : DState) :
    exec i (s.setDec d) = .next (t.setDec d) := by
  cases exec_branch h with
  | clkStartFirst hon => exact exec_clkStart_first (s := s.setDec d) hon
  | clkStartRepeated hon => exact exec_clkStart_repeated (s := s.setDec d) hon
  | posSetInRange hp => exact exec_posSet_inRange hp (s.setDec d)
  | posSetOutOfRange hp => exact exec_posSet_outOfRange hp (s.setDec d)
  | edgeSampleComplete | edgeSampleOther => exact absurd rfl hi
  | _ => rfl

theorem issueWord_of_run {w : Word} {i : Instr} {s u : State} (hi : decodeAndCheck w = .run i) (rest : HostProgram)
    (hu : exec i s = .next u) : issueWord w rest s = .next (u.hostAdvance rest) := by
  simp [issueWord, hi, hu]

/-- The host never runs EDGE_SAMPLE (R77), so no word it issues touches DEC. -/
theorem issueWord_setDec {w : Word} {rest : HostProgram} {s t : State} (h : issueWord w rest s = .next t) (d : DState) :
    issueWord w rest (s.setDec d) = .next (t.setDec d) := by
  obtain ⟨c, hc, rfl⟩ | ⟨i, u, hi, hu, rfl⟩ := issueWord_cases h
  · exact issueWord_of_raises hc rest (s.setDec d)
  · have hSample : i ≠ .edgeSample := by rintro rfl; cases (decodeAndCheck_run hi).2
    exact issueWord_of_run hi rest (exec_setDec hSample hu d)

theorem hostStep_of_finished {s : State} (h : s.program.nextWord s.res = none) : hostStep s = .next s := by
  simp [hostStep, h]

theorem hostStep_setDec {s t : State} (h : hostStep s = .next t) (d : DState) : hostStep (s.setDec d) = .next (t.setDec d) := by
  cases hw : s.program.nextWord s.res with
  | none =>
    obtain rfl := Host.Outcome.next.inj ((hostStep_of_finished hw).symm.trans h)
    exact hostStep_of_finished (s := s.setDec d) hw
  | some next =>
    rw [hostStep_of_nextWord hw] at h
    rw [hostStep_of_nextWord (s := s.setDec d) hw]
    exact issueWord_setDec h d

theorem timerFire_setDec (s : State) (d : DState) : timerFire (s.setDec d) = (timerFire s).setDec d := by
  cases h : s.tmrPf with
  | false => rw [timerFire_request h]; exact timerFire_request (s := s.setDec d) h
  | true => rw [timerFire_overrun h]; exact timerFire_overrun (s := s.setDec d) h

theorem agentStep_setDec {a : Agent} {s t : State} (ha : a ≠ .pinChangeIsr) (h : agentStep a s = .next t) (d : DState) :
    agentStep a (s.setDec d) = .next (t.setDec d) := by
  cases a with
  | host => exact hostStep_setDec h d
  | timerFire =>
    obtain rfl := Host.Outcome.next.inj h
    exact congrArg Host.Outcome.next (timerFire_setDec s d)
  | timerIsr =>
    obtain ⟨u, hu, rfl⟩ := dispatchIsr_cases h
    exact congrArg (mapNext State.leaveIsr) (exec_setDec (by decide) hu d)
  | pinChangeIsr => exact absurd rfl ha
  | pinEdge =>
    obtain rfl := Host.Outcome.next.inj h
    rfl

/-- Settles O34: any value put in DEC is carried through the step, and so is the value that stands there. -/
theorem decoderStateBelongsToEdgeSample : Obligations.DecoderStateBelongsToEdgeSample := by
  intro a s t d ha h
  have same : t = t.setDec s.dec := Host.Outcome.next.inj (h.symm.trans (agentStep_setDec ha h s.dec))
  exact ⟨congrArg (·.dec) same, agentStep_setDec ha h d⟩

/-! ### PIN_EDGE (R140) -/

theorem canStep_pinEdge_iff (s : State) : canStep .pinEdge s = true ↔ s.fault = none := by
  simp [canStep]

theorem movePin_enabled {s : State} (h : s.pcIe = true) : s.movePin = { s with pin := !s.pin, pcPf := true } := by
  simp [State.movePin, h]

theorem movePin_masked {s : State} (h : s.pcIe = false) : s.movePin = { s with pin := !s.pin } := by
  simp [State.movePin, h]

/-- Settles O13: PC_IE decides whether the edge that moves the pin also requests the interrupt. -/
theorem pinEdgeMovesPinAndRequests : Obligations.PinEdgeMovesPinAndRequests := fun s =>
  ⟨canStep_pinEdge_iff s, fun h => congrArg (fun u => Host.Outcome.next (State.log u _)) (movePin_enabled h),
    fun h => congrArg (fun u => Host.Outcome.next (State.log u _)) (movePin_masked h)⟩

/-! ### EDGE_ENABLE and EDGE_SAMPLE (R141, R142, R145) -/

/-- Settles O32: EDGE_ENABLE has one branch. -/
theorem edgeEnableSetsPcIe : Obligations.EdgeEnableSetsPcIe := fun _ => rfl

theorem State.log_log (s : State) (e f : Event) : (s.log e).log f = s.withHist (s.hist ++ [e, f]) := by
  simp [State.log, State.withHist]

/-- Settles O33: the decoder's outcome decides whether the slot is written before the sample is logged. -/
theorem edgeSampleFeedsDecoder : Obligations.EdgeSampleFeedsDecoder := by
  intro s d o h
  have hexec := exec_edgeSample h
  cases o with
  | complete c => exact hexec.trans (congrArg Host.Outcome.next (State.log_log _ _ _))
  | partialFrame | decodeError => exact hexec

end Sys2Proof.Machine

/-!
The statements about the PWM Actuator position Driver (spec 43_actuator.md): its operations (R161 to R165), what HIST says of POS and
CMP over runs (R160, R166), and the range invariant (R167), with the invariants that hold of every launch (R260). What HIST says is a
relation between two states: the events between them give both cells, and command positions in range only. Each step extends it, so
it holds along runs, and the range invariant follows from it.
-/

namespace Sys2Proof.Machine

open Sys2Proof.Safety

/-! ### The range and the threshold (R161, R164, R165) -/

theorem posInRange_iff (p : Half) : posInRange p = true ↔ 125 ≤ p.toNat ∧ p.toNat ≤ 625 := by
  simp [posInRange, Config.posMin, Config.posMax]

theorem posInRange_eq_false_iff (p : Half) : posInRange p = false ↔ p.toNat < 125 ∨ 625 < p.toNat := by
  rw [← Bool.not_eq_true, posInRange_iff]
  omega

theorem toggleTarget_of_le_mid {p : Half} (h : p.toNat ≤ 375) : toggleTarget p = Config.posMax :=
  if_pos (decide_eq_true h)

theorem toggleTarget_of_mid_lt {p : Half} (h : 375 < p.toNat) : toggleTarget p = Config.posMin :=
  if_neg (mt of_decide_eq_true (Nat.not_le.2 h))

/-- POS_TOGGLE commands one of the two ends, so its range check cannot fail (R163). -/
theorem posInRange_toggleTarget (p : Half) : posInRange (toggleTarget p) = true := by
  obtain h | h := le_or_gt p.toNat 375
  · rw [toggleTarget_of_le_mid h]; rfl
  · rw [toggleTarget_of_mid_lt h]; rfl

/-! ### What HIST says of POS and CMP (R160, R166) -/

@[simp] theorem positionAfter_append (p : Half) (h g : List Event) :
    positionAfter p (h ++ g) = positionAfter (positionAfter p h) g := by
  induction p, h using positionAfter.induct with
  | case1 p => rfl
  | case2 p q h ih => simpa [positionAfter] using ih
  | case3 p e h he ih => simpa [positionAfter] using ih

/-- A history either leaves every position as it found it, or leaves one that it wrote, whatever it found. -/
theorem positionAfter_cases (es : List Event) :
    (∀ p, positionAfter p es = p) ∨ ∃ q, .posWrite q ∈ es ∧ ∀ p, positionAfter p es = q := by
  induction es using List.reverseRecOn with
  | nil => exact .inl fun _ => rfl
  | append_singleton es e ih =>
    cases e with
    | posWrite q => exact .inr ⟨q, by simp, by simp [positionAfter]⟩
    | _ => simpa [positionAfter] using ih

/-- From `s` to `t` HIST grew by events that tell what POS and CMP hold, and whose PosWrites are of positions in range. -/
def TracksPosition (s t : State) : Prop :=
  ∃ es, t.hist = s.hist ++ es ∧ t.pos = positionAfter s.pos es ∧ t.cmp = positionAfter s.cmp es ∧
    ∀ q, .posWrite q ∈ es → posInRange q = true

theorem TracksPosition.of_eq {s t : State} (hhist : t.hist = s.hist) (hpos : t.pos = s.pos) (hcmp : t.cmp = s.cmp) :
    TracksPosition s t :=
  ⟨[], by simp [hhist], hpos, hcmp, by simp⟩

/-- One event is logged, and POS and CMP move as it says. -/
theorem TracksPosition.of_event {s t : State} (e : Event) (hhist : t.hist = s.hist ++ [e]) (hpos : t.pos = positionAfter s.pos [e])
    (hcmp : t.cmp = positionAfter s.cmp [e]) (hrange : ∀ q, .posWrite q = e → posInRange q = true) : TracksPosition s t :=
  ⟨[e], hhist, hpos, hcmp, fun q hq => hrange q (List.mem_singleton.1 hq)⟩

theorem TracksPosition.trans (s u t : State) (hsu : TracksPosition s u) (hut : TracksPosition u t) : TracksPosition s t := by
  obtain ⟨es, hes, hpos, hcmp, hrange⟩ := hsu
  obtain ⟨fs, hfs, hpos', hcmp', hrange'⟩ := hut
  exact ⟨es ++ fs, by simp [hfs, hes], by simp [hpos', hpos], by simp [hcmp', hcmp],
    fun q hq => (List.mem_append.1 hq).elim (hrange q) (hrange' q)⟩

/-- A commanded position goes to both cells and to HIST. -/
theorem commandPosition_tracksPosition {p : Half} (h : posInRange p = true) (s : State) :
    TracksPosition s (s.commandPosition p) :=
  .of_event (.posWrite p) rfl rfl rfl fun _ hq => Event.posWrite.inj hq ▸ h

/-- POS_SET in range and POS_TOGGLE command a position, and no other branch writes POS or CMP or logs a PosWrite. -/
theorem exec_tracksPosition {i : Instr} {s t : State} (h : exec i s = .next t) : TracksPosition s t := by
  cases exec_branch h with
  | posSetInRange hp => exact commandPosition_tracksPosition hp s
  | posToggle => exact (commandPosition_tracksPosition (posInRange_toggleTarget s.pos) s :)
  | posGet => exact .of_eq rfl rfl rfl
  | edgeSampleComplete => exact .trans _ (s.publish _) _ (.of_event _ rfl rfl rfl nofun) (.of_event _ rfl rfl rfl nofun)
  | _ => exact .of_event _ rfl rfl rfl nofun

theorem agentStep_tracksPosition {a : Agent} {s t : State} (he : canStep a s = true) (h : agentStep a s = .next t) :
    TracksPosition s t := by
  obtain ⟨rfl, w, rest, -, hi⟩ | ⟨rfl, rfl⟩ | ⟨rfl, u, hu, rfl⟩ | ⟨rfl, u, hu, rfl⟩ | ⟨rfl, rfl⟩ := agentStep_cases he h
  · obtain ⟨c, -, rfl⟩ | ⟨i, u, -, hu, rfl⟩ := issueWord_cases hi
    · exact .of_event _ rfl rfl rfl nofun
    · exact (exec_tracksPosition hu :)
  · obtain h | h := timerFire_cases s <;> rw [h] <;> exact .of_event _ rfl rfl rfl nofun
  · exact (exec_tracksPosition hu :)
  · exact (exec_tracksPosition hu :)
  · exact .of_event _ rfl rfl rfl nofun

theorem step_tracksPosition (s t : State) (h : step s = .next t) : TracksPosition s t := by
  obtain ⟨u, he, hu, rfl⟩ := step_enabled_cases h
  exact (agentStep_tracksPosition he hu :)

theorem run_tracksPosition {k : Nat} {s t : State} (h : core.run k s = .next t) : TracksPosition s t :=
  run_relates (M := core) (R := TracksPosition) (fun _ => .of_eq rfl rfl rfl) TracksPosition.trans step_tracksPosition h

/-- Settles O40: each step's events tell what becomes of POS and CMP, and join up along the run. -/
theorem positionIsLastPosWrite : Obligations.PositionIsLastPosWrite := by
  intro k s t h
  obtain ⟨es, hhist, hpos, hcmp, -⟩ := run_tracksPosition h
  exact ⟨es, hhist, hpos, hcmp⟩

/-! ### The range invariant (R26, R167) -/

theorem positionInvariant_iff (s : State) : PositionInvariant s ↔ posInRange s.pos = true ∧ s.cmp = s.pos := by
  simp [PositionInvariant, posInRange, and_assoc]

/-- Both cells are as they were, or hold the same written position, which is in range. -/
theorem TracksPosition.positionInvariant {s t : State} (h : TracksPosition s t) (hs : PositionInvariant s) :
    PositionInvariant t := by
  rw [positionInvariant_iff] at *
  obtain ⟨es, -, hpos, hcmp, hwrites⟩ := h
  obtain hkeep | ⟨q, hq, hwrite⟩ := positionAfter_cases es
  · rwa [hpos, hcmp, hkeep, hkeep]
  · rw [hpos, hcmp, hwrite, hwrite]
    exact ⟨hwrites q hq, rfl⟩

/-- Settles O39: a step tracks the position, and writes only positions in range, to both cells at once. -/
theorem positionStaysInRange : Obligations.PositionStaysInRange :=
  fun s t hs h => (step_tracksPosition s t h).positionInvariant hs

/-! ### The operations (R161 to R165) -/

/-- Settles O35: the branch of POS_SET in range, in which the critical section leaves GIE as it was. -/
theorem posSetCommandsPosition : Obligations.PosSetCommandsPosition :=
  fun p s hmin hmax => exec_posSet_inRange ((posInRange_iff p).2 ⟨hmin, hmax⟩) s

/-- Settles O36: the branch of POS_SET out of range. -/
theorem posSetOutOfRangeFaults : Obligations.PosSetOutOfRangeFaults :=
  fun p s h => exec_posSet_outOfRange ((posInRange_eq_false_iff p).2 h) s

/-- Settles O37: POS_GET has one branch. -/
theorem posGetReadsPosition : Obligations.PosGetReadsPosition := fun _ => rfl

theorem exec_posToggle (s : State) :
    exec .posToggle s = .next ((s.commandPosition (toggleTarget s.pos)).setRes (.posV (toggleTarget s.pos))) := rfl

/-- Settles O38: the threshold decides which end POS_TOGGLE commands. -/
theorem posToggleCommandsOtherEnd : Obligations.PosToggleCommandsOtherEnd := by
  intro s
  refine ⟨fun h => ?_, fun h => ?_⟩
  · rw [exec_posToggle, toggleTarget_of_le_mid h]; rfl
  · rw [exec_posToggle, toggleTarget_of_mid_lt h]; rfl

/-! ### Launches (R260) -/

/-- Settles O57: a launch commands POS_MIN in both cells, has no source enabled or pending, and has an empty history. -/
theorem invariantsHoldAtReset : Obligations.InvariantsHoldAtReset := by
  intro pin d0 correct program l
  have hposition : PositionInvariant (State.launch pin d0 correct program l) :=
    (positionInvariant_iff _).2 ⟨rfl, rfl⟩
  have hcontrol : ControlInvariant (State.launch pin d0 correct program l) := ⟨rfl, nofun, nofun⟩
  have hticks : TicksAccounted (State.launch pin d0 correct program l) := rfl
  have hrest : RestInvariant (State.launch pin d0 correct (.reference .clkStart) l) := ⟨.clkStart, rfl, fun _ => rfl⟩
  exact ⟨hposition, hcontrol, hticks, hrest⟩

end Sys2Proof.Machine

/-!
The statements about the host (spec 44_control_host.md): its two operations (R190, R191), when its step and the ISR dispatches are
enabled (R192, R226, R227), what its step runs (R192), and its reference program (R196 to R200, R263). What the reference program may
issue is read off its points once; that it never faults and comes back to rest follows from the operations it issues.
-/

namespace Sys2Proof.Machine

open Sys2Proof.Safety

/-! ### IRQ_ENABLE and HOST_DELAY (R190, R191) -/

/-- Settles O42: IRQ_ENABLE has one branch. -/
theorem irqEnableSetsGie : Obligations.IrqEnableSetsGie := fun _ => rfl

/-- Settles O43: HOST_DELAY has one branch. -/
theorem hostDelayOnlyLogs : Obligations.HostDelayOnlyLogs := fun _ _ => rfl

/-! ### Enabling conditions (R192, R226, R227) -/

theorem canStep_host_iff (s : State) :
    canStep .host s = true ↔ s.fault = none ∧ ∃ w rest, s.program.nextWord s.res = some (w, rest) := by
  simp [canStep, Option.isSome_iff_exists]

theorem canStep_timerIsr_iff (s : State) :
    canStep .timerIsr s = true ↔ s.fault = none ∧ s.gie = true ∧ s.tmrIe = true ∧ s.tmrPf = true := by
  simp [canStep, and_assoc]

theorem canStep_pinChangeIsr_iff (s : State) :
    canStep .pinChangeIsr s = true ↔ s.fault = none ∧ s.gie = true ∧ s.pcIe = true ∧ s.pcPf = true := by
  simp [canStep, and_assoc]

/-- Settles O14, agent by agent. -/
theorem enablingConditions : Obligations.EnablingConditions :=
  fun s => ⟨canStep_host_iff s, canStep_timerIsr_iff s, canStep_pinChangeIsr_iff s⟩

/-! ### The operation a host step runs (R78, R192) -/

/-- A host step whose next word spells an operation the host may issue is that operation, counted by HPC. -/
theorem hostStep_of_decode {s u : State} {w : Word} {rest : HostProgram} {i : Instr}
    (hw : s.program.nextWord s.res = some (w, rest)) (hd : decode w = .op i) (hmay : i.hostMayIssue = true)
    (hu : exec i s = .next u) : hostStep s = .next (u.hostAdvance rest) :=
  (hostStep_of_nextWord hw).trans (issueWord_of_run (decodeAndCheck_of_hostMayIssue hd hmay) rest hu)

/-- Settles O9: the scheduled host step is enabled, and its word passes the checks. -/
theorem hostStepRunsDecodedOperation : Obligations.HostStepRunsDecodedOperation := by
  intro s l w rest i hf hs hw hd hmay
  have he : canStep .host s = true := (canStep_host_iff s).2 ⟨hf, w, rest, hw⟩
  obtain ⟨u, hu⟩ := exec_total i s
  rw [step_of_running hf, pick_of_scheduled he hs, agentStep, hostStep_of_decode hw hd hmay hu, hu]
  rfl

/-! ### What the reference program issues (R196, R263) -/

theorem nextWord_reference {p q : RefPoint} {res : Result} {i : Instr} {w : Word} (h : p.issue res = (i, q))
    (hw : encode i = w) : (HostProgram.reference p).nextWord res = some (w, .reference q) := by
  simp [HostProgram.nextWord, h, hw]

theorem commandQualifies_iff (c : Cmd) : commandQualifies c = true ↔ c.isRepeat = false ∧ c.command ≠ 0 := by
  simp [commandQualifies, Config.noopCode]

theorem commandQualifies_eq_false_iff (c : Cmd) : commandQualifies c = false ↔ c.isRepeat = true ∨ c.command = 0 := by
  rw [← Bool.not_eq_true, commandQualifies_iff]
  simp [imp_iff_not_or]

theorem issue_decide_qualifying {c : Cmd} (h : commandQualifies c = true) :
    RefPoint.decide.issue (.cmdOpt (some c)) = (.posToggle, .settle) := by
  simp [RefPoint.issue, h]

theorem issue_decide_filtered {c : Cmd} (h : commandQualifies c = false) :
    RefPoint.decide.issue (.cmdOpt (some c)) = (.hostDelay Config.pollMs, .take) := by
  simp [RefPoint.issue, h]

/-- The loop's one choice: start the settle sequence, or poll. -/
theorem issue_decide_cases (res : Result) :
    RefPoint.decide.issue res = (.posToggle, .settle) ∨ RefPoint.decide.issue res = (.hostDelay Config.pollMs, .take) := by
  cases res with
  | cmdOpt taken =>
    cases taken with
    | none => exact .inr rfl
    | some c =>
      cases h : commandQualifies c with
      | true => exact .inl (issue_decide_qualifying h)
      | false => exact .inr (issue_decide_filtered h)
  | nothing | u32 | posV => exact .inr rfl

/-- Settles O45: the filter decides between the two ways on from the loop's choice, and the other points have one. -/
theorem referenceLoopFiltersCommands : Obligations.ReferenceLoopFiltersCommands := by
  have hpoll : encode (.hostDelay Config.pollMs) = 0x0000064C := rfl
  have hsettle : encode (.hostDelay Config.settleMs) = 0x00003E8C := rfl
  have hrest : encode (.posSet Config.posMin) = 0x000007D8 := rfl
  refine ⟨fun _ => nextWord_reference rfl rfl, fun c h => ?_, fun c hrep hcmd => ?_, nextWord_reference rfl hpoll,
    fun _ => ⟨nextWord_reference rfl hsettle, nextWord_reference rfl hrest, nextWord_reference rfl hpoll⟩⟩
  · exact nextWord_reference (issue_decide_filtered ((commandQualifies_eq_false_iff c).2 h)) hpoll
  · exact nextWord_reference (issue_decide_qualifying ((commandQualifies_iff c).2 ⟨hrep, hcmd⟩)) rfl

theorem hostMayIssue_issue (p : RefPoint) (res : Result) : (p.issue res).1.hostMayIssue = true := by
  cases p with
  | decide => obtain h | h := issue_decide_cases res <;> rw [h] <;> rfl
  | _ => rfl

/-- The loop does not lead back to the boot's first point (R200, R263). -/
theorem issue_ne_clkStart (p : RefPoint) (res : Result) : (p.issue res).2 ≠ .clkStart := by
  cases p with
  | decide => obtain h | h := issue_decide_cases res <;> rw [h] <;> nofun
  | _ => nofun

/-- A host step of the reference program runs the operation of its point. -/
theorem hostStep_reference {s : State} {p : RefPoint} (hp : s.program = .reference p) :
    ∃ u, exec (p.issue s.res).1 s = .next u ∧ hostStep s = .next (u.hostAdvance (.reference (p.issue s.res).2)) := by
  obtain ⟨u, hu⟩ := exec_total (p.issue s.res).1 s
  have hw := nextWord_reference (p := p) (res := s.res) rfl rfl
  rw [← hp] at hw
  exact ⟨u, hu, hostStep_of_decode hw (decodeOfEncodeIsIdentity _) (hostMayIssue_issue p s.res) hu⟩

/-! ### The reference program does not fault (R200) -/

/-- The operations that can raise are CLK_START and a POS_SET out of range (R100, R165). -/
theorem exec_fault_of_safe {i : Instr} {s t : State} (hstart : i ≠ .clkStart) (hset : ∀ x, i = .posSet x → posInRange x = true)
    (h : exec i s = .next t) : t.fault = s.fault := by
  cases exec_branch h with
  | clkStartRepeated => exact absurd rfl hstart
  | posSetOutOfRange hout => cases hout.symm.trans (hset _ rfl)
  | _ => rfl

/-- Past its first point the reference program issues no CLK_START, and commands only the two ends of the range. -/
theorem issue_safe {p : RefPoint} (hp : p ≠ .clkStart) (res : Result) :
    (p.issue res).1 ≠ .clkStart ∧ ∀ x, (p.issue res).1 = .posSet x → posInRange x = true := by
  cases p with
  | clkStart => exact absurd rfl hp
  | decide => obtain h | h := issue_decide_cases res <;> rw [h] <;> exact ⟨nofun, nofun⟩
  | selfTestMax | selfTestMin | rest => exact ⟨nofun, fun _ h => Instr.posSet.inj h ▸ rfl⟩
  | _ => exact ⟨nofun, nofun⟩

/-- Settles O46: the program has a next word at every point, and past the first one an operation that cannot raise. -/
theorem referenceLoopNeverFaults : Obligations.ReferenceLoopNeverFaults := by
  intro s p hf hp hne
  obtain ⟨u, hu, hstep⟩ := hostStep_reference hp
  obtain ⟨hstart, hset⟩ := issue_safe hne s.res
  exact ⟨(canStep_host_iff s).2 ⟨hf, _, _, hp ▸ nextWord_reference rfl rfl⟩, _, _, hstep,
    (exec_fault_of_safe hstart hset hu).trans hf, rfl, issue_ne_clkStart p s.res⟩

/-! ### The reference program comes back to rest (R196, R198, R263) -/

/-- A resting point is reached by commanding POS_MIN, or from a resting point without commanding a position. -/
theorem issue_to_restingPoint {p : RefPoint} {res : Result} (h : restingPoint (p.issue res).2 = true) :
    (p.issue res).1 = .posSet Config.posMin ∨
    (restingPoint p = true ∧ ¬ ((p.issue res).1 = .posToggle ∨ ∃ x, (p.issue res).1 = .posSet x)) := by
  cases p with
  | selfTestMin | rest => exact .inl rfl
  | selfTestMax | settle => cases h
  | decide =>
    obtain hi | hi := issue_decide_cases res <;> rw [hi] at h ⊢
    · cases h
    · exact .inr ⟨rfl, by simp⟩
  | clkStart | edgeEnable | irqEnable | take | poll => exact .inr ⟨rfl, by simp [RefPoint.issue]⟩

theorem exec_posSet_posMin_pos {s t : State} (h : exec (.posSet Config.posMin) s = .next t) : t.pos = Config.posMin := by
  obtain rfl := Host.Outcome.next.inj ((exec_posSet_inRange rfl s).symm.trans h)
  rfl

/-- The operation of a point leaves POS at POS_MIN where the point after it is a resting one. -/
theorem exec_issue_rests {s t : State} {p : RefPoint} {res : Result} (hs : restingPoint p = true → s.pos = Config.posMin)
    (h : exec (p.issue res).1 s = .next t) (hq : restingPoint (p.issue res).2 = true) : t.pos = Config.posMin := by
  obtain hi | ⟨hp, hi⟩ := issue_to_restingPoint hq
  · exact exec_posSet_posMin_pos (hi ▸ h)
  · exact (not_imp_comm.1 (exec_writesOnlyItsCells h).pos hi).trans (hs hp)

theorem exec_program {i : Instr} {s t : State} (h : exec i s = .next t) : t.program = s.program := by
  cases exec_branch h <;> rfl

/-- Only the host moves its program on (R192). -/
theorem agentStep_program {a : Agent} {s t : State} (ha : a ≠ .host) (h : agentStep a s = .next t) : t.program = s.program := by
  cases a with
  | host => exact absurd rfl ha
  | timerFire =>
    obtain rfl := Host.Outcome.next.inj h
    obtain h | h := timerFire_cases s <;> rw [h] <;> rfl
  | timerIsr | pinChangeIsr =>
    obtain ⟨u, hu, rfl⟩ := dispatchIsr_cases h
    exact (exec_program hu :)
  | pinEdge =>
    obtain rfl := Host.Outcome.next.inj h
    rfl

/-- Only the host commands a position (R46). -/
theorem agentStep_pos {a : Agent} {s t : State} (ha : a ≠ .host) (he : canStep a s = true) (h : agentStep a s = .next t) :
    t.pos = s.pos := by
  obtain ⟨-, -, hpos, -⟩ := cellsHaveOnlyTheirWriters a s t he h
  by_contra hne
  obtain hi | ⟨p, hi⟩ := hpos hne <;> exact not_issues ha s _ hi

/-- Settles O47: the host's step takes the invariant from point to point, and the other agents touch neither the program nor POS. -/
theorem actuatorEndsCycleAtRest : Obligations.ActuatorEndsCycleAtRest := by
  intro s t hs h
  obtain ⟨p, hp, hrest⟩ := hs
  obtain ⟨u, he, hu, rfl⟩ := step_enabled_cases h
  by_cases ha : pick s = .host
  · obtain ⟨v, hv, hstep⟩ := hostStep_reference hp
    rw [ha, agentStep, hstep] at hu
    obtain rfl := Host.Outcome.next.inj hu
    exact ⟨_, rfl, exec_issue_rests (t := v) hrest hv⟩
  · exact ⟨p, (agentStep_program ha hu).trans hp, fun h => (agentStep_pos ha he hu).trans (hrest h)⟩

end Sys2Proof.Machine

/-!
The statements about faults and interrupts (spec 60_exceptions.md): what a fault stops and what raising one writes (R221 to R223,
R232), the two ISR steps and their order (R226 to R231), the writers of the interrupt control elements (R225), and the ticks of a fair
run (R241, R242). The last one rests on the others: the enables are never cleared, so fairness alone makes a request appear and then
makes the timer ISR take it.
-/

namespace Sys2Proof.Machine

open Sys2Proof.Safety

/-! ### After a fault (R36, R222) -/

theorem canStep_of_fault {s : State} {c : FaultCode} (h : s.fault = some c) (a : Agent) : canStep a s = false := by
  simp [canStep, h]

theorem step_of_fault {s : State} {c : FaultCode} (h : s.fault = some c) : step s = .fault (.noStepEnabled c) := by
  unfold step
  rw [h]

/-- Settles O48: every enabling condition asks for FAULT = none, and `step` looks at FAULT first. -/
theorem faultStopsEveryAgent : Obligations.FaultStopsEveryAgent := fun _ _ h => ⟨canStep_of_fault h, step_of_fault h⟩

/-! ### The ISR steps (R226, R227, R229) -/

theorem enterIsr_tmr (s : State) : s.enterIsr .tmr = { s with gie := false, tmrPf := false } := by
  simp [State.enterIsr, show (IrqSource.tmr != .pc) = true from rfl]

theorem enterIsr_pc (s : State) : s.enterIsr .pc = { s with gie := false, pcPf := false } := by
  simp [State.enterIsr, show (IrqSource.pc != .tmr) = true from rfl]

/-- A scheduled ISR's step is its body between entry and return, and uses up the choice. -/
theorem step_of_scheduledIsr {a : Agent} {src : IrqSource} {s : State} {l : List Agent}
    (ha : agentStep a s = dispatchIsr src s) (he : canStep a s = true) (hs : s.schedule = a :: l) :
    step s = mapNext (·.leaveIsr.advanceSchedule) (exec (isrBody src) (s.enterIsr src)) := by
  obtain ⟨u, hu⟩ := exec_total (isrBody src) (s.enterIsr src)
  rw [step_of_running (fault_of_canStep he), pick_of_scheduled he hs, ha, dispatchIsr, hu]
  rfl

/-- An enabled timer ISR's step: the request is taken, the tick counted, and GIE as it was found. -/
theorem agentStep_timerIsr {s : State} (hgie : s.gie = true) :
    agentStep .timerIsr s = .next { s with tmrPf := false, clk := nextTick s.clk, hist := s.hist ++ [.tick (nextTick s.clk)] } := by
  rw [agentStep, dispatchIsr, enterIsr_tmr, hgie]
  rfl

/-- Settles O10: the scheduled ISR's step is its body's, which has one branch. -/
theorem timerIsrStepRunsClkTick : Obligations.TimerIsrStepRunsClkTick := by
  intro s l hf hs hgie hie hpf
  have he : canStep .timerIsr s = true := (canStep_timerIsr_iff s).2 ⟨hf, hgie, hie, hpf⟩
  refine ⟨?_, ?_⟩
  · rw [step_of_scheduledIsr rfl he hs, enterIsr_tmr]
    rfl
  · obtain ⟨t, ht, hstep⟩ := anyEnabledStepMayRunNext s .timerIsr l he hs
    obtain rfl := Host.Outcome.next.inj ((agentStep_timerIsr hgie).symm.trans ht)
    exact hstep

/-- Settles O11: the scheduled ISR's step is its body's. -/
theorem pinChangeIsrStepRunsEdgeSample : Obligations.PinChangeIsrStepRunsEdgeSample := by
  intro s l hf hs hgie hie hpf
  have he : canStep .pinChangeIsr s = true := (canStep_pinChangeIsr_iff s).2 ⟨hf, hgie, hie, hpf⟩
  rw [step_of_scheduledIsr rfl he hs, enterIsr_pc]
  rfl

/-! ### The order of pending interrupts (R146, R231) -/

theorem exec_edgeSample_hist {s t : State} (h : exec .edgeSample s = .next t) :
    ∃ es o, t.hist = s.hist ++ es ++ [.edgeSampled (edgeEvent s.pin) s.clk o] := by
  cases exec_branch h with
  | edgeSampleComplete => exact ⟨[.publish _], _, rfl⟩
  | @edgeSampleOther d o => exact ⟨[], o, by simp⟩

/-- The pin-change ISR samples the pin's level and the clock as it finds them. -/
theorem agentStep_pinChangeIsr_hist {s t : State} (h : agentStep .pinChangeIsr s = .next t) :
    ∃ es o, t.hist = s.hist ++ es ++ [.edgeSampled (edgeEvent s.pin) s.clk o] := by
  obtain ⟨u, hu, rfl⟩ := dispatchIsr_cases h
  exact (exec_edgeSample_hist hu :)

/-- The pin-change ISR's step leaves the timer's interrupt as it was. -/
theorem canStep_timerIsr_of_pinChangeIsr {s t : State} (he : canStep .timerIsr s = true) (h : agentStep .pinChangeIsr s = .next t) :
    canStep .timerIsr t = true := by
  obtain ⟨u, hu, rfl⟩ := dispatchIsr_cases h
  obtain ⟨hf, -, hie, hpf⟩ := (canStep_timerIsr_iff s).1 he
  rw [enterIsr_pc] at hu
  refine (canStep_timerIsr_iff _).2 ?_
  cases exec_branch hu <;> exact ⟨hf, rfl, hie, hpf⟩

/-- Settles O17: neither ISR's step touches the other's enabling condition, and only the timer's moves CLK. -/
theorem pendingInterruptsRunInEitherOrder : Obligations.PendingInterruptsRunInEitherOrder := by
  intro s htmr hpc
  refine ⟨?_, ?_⟩
  · obtain ⟨-, hgie, -, -⟩ := (canStep_timerIsr_iff s).1 htmr
    obtain ⟨u, hu⟩ := agentStep_total .pinChangeIsr
      { s with tmrPf := false, clk := nextTick s.clk, hist := s.hist ++ [.tick (nextTick s.clk)] }
    obtain ⟨es, o, hhist⟩ := agentStep_pinChangeIsr_hist hu
    exact ⟨_, u, agentStep_timerIsr hgie, hpc, hu, .tick (nextTick s.clk) :: es, o, by simpa [nextTick] using hhist⟩
  · obtain ⟨t, ht⟩ := agentStep_total .pinChangeIsr s
    obtain ⟨u, hu⟩ := agentStep_total .timerIsr t
    obtain ⟨es, o, hhist⟩ := agentStep_pinChangeIsr_hist ht
    have hclk : t.clk = s.clk := by simpa using agentStep_clk hpc ht
    exact ⟨t, u, ht, canStep_timerIsr_of_pinChangeIsr htmr ht, hu, es, o, hhist, hclk ▸ agentStep_timerIsr_clk hu⟩

/-! ### What raises, and what a raise writes (R221 to R223, R232) -/

/-- The words whose checks raise, by the code raised (R76 to R78). -/
theorem decode_of_raises {w : Word} {c : FaultCode} (h : decodeAndCheck w = .raises c) :
    (c = .undefinedOp ∧ ∀ i, decode w ≠ .op i) ∨
    (c = .illegalContext ∧ (decode w = .op .clkTick ∨ decode w = .op .edgeSample)) := by
  cases hd : decode w with
  | rejected why =>
    rw [decodeAndCheck, hd] at h
    cases h
    exact .inl ⟨rfl, nofun⟩
  | op i =>
    cases hmay : i.hostMayIssue with
    | true => cases (decodeAndCheck_of_hostMayIssue hd hmay).symm.trans h
    | false =>
      cases (decodeAndCheck_of_isrBody hd hmay).symm.trans h
      refine .inr ⟨rfl, ?_⟩
      cases i with
      | clkTick => exact .inl rfl
      | edgeSample => exact .inr rfl
      | _ => cases hmay

/-- The two operations that can raise, each with its code and info; the raise is all they then do. -/
theorem exec_raises {i : Instr} {s t : State} {c : FaultCode} (hs : s.fault = none) (h : exec i s = .next t)
    (ht : t.fault = some c) :
    (i = .clkStart ∧ c = .startRepeated ∧ s.tmrOn = true ∧ t = s.raise c 0) ∨
    ∃ p, i = .posSet p ∧ c = .posRange ∧ posInRange p = false ∧ t = s.raise c p.toNat := by
  cases exec_branch h with
  | clkStartRepeated hon => cases ht; exact .inl ⟨rfl, rfl, hon, rfl⟩
  | posSetOutOfRange hp => cases ht; exact .inr ⟨_, rfl, rfl, hp, rfl⟩
  | _ => cases hs.symm.trans ht

/-- No ISR raises (R232). -/
theorem isr_fault {src : IrqSource} {s u : State} (hs : s.fault = none) (h : exec (isrBody src) (s.enterIsr src) = .next u) :
    u.fault = none := by
  rw [Option.eq_none_iff_forall_ne_some]
  intro c hc
  obtain ⟨hi, -⟩ | ⟨p, hi, -⟩ := exec_raises (s := s.enterIsr src) hs h hc <;> cases src <;> cases hi

/-- Settles O49, agent by agent: a host step raises in the checks of its word or in its operation. -/
theorem faultsArePrecise : Obligations.FaultsArePrecise := by
  intro a s t c he h ht
  have hs := fault_of_canStep he
  obtain ⟨rfl, w, rest, hw, hissue⟩ | ⟨rfl, rfl⟩ | ⟨rfl, u, hu, rfl⟩ | ⟨rfl, u, hu, rfl⟩ | ⟨rfl, rfl⟩ := agentStep_cases he h
  · obtain ⟨c, hc, rfl⟩ | ⟨i, u, hi, hu, rfl⟩ := issueWord_cases hissue
    · cases ht
      refine ⟨w.toNat, rfl, .inr ⟨rfl, w, rest, hw, ?_⟩⟩
      obtain ⟨rfl, hd⟩ | ⟨rfl, hd⟩ := decode_of_raises hc
      · exact .inl ⟨rfl, rfl, hd⟩
      · exact .inr (.inl ⟨rfl, rfl, hd⟩)
    · obtain ⟨hd, -⟩ := decodeAndCheck_run hi
      obtain ⟨rfl, rfl, hon, rfl⟩ | ⟨p, rfl, rfl, hp, rfl⟩ := exec_raises hs hu ht
      · exact ⟨0, rfl, .inr ⟨rfl, w, rest, hw, .inr (.inr (.inl ⟨rfl, rfl, hd, hon⟩))⟩⟩
      · have hout := (posInRange_eq_false_iff p).1 hp
        exact ⟨p.toNat, rfl, .inr ⟨rfl, w, rest, hw, .inr (.inr (.inr ⟨rfl, p, hd, rfl, hout⟩))⟩⟩
  · obtain hpf | hpf := Bool.eq_false_or_eq_true s.tmrPf
    · rw [timerFire_overrun hpf] at ht ⊢
      cases ht
      exact ⟨s.clk.toNat, rfl, .inl ⟨rfl, rfl, hpf, rfl⟩⟩
    · rw [timerFire_request hpf] at ht
      cases hs.symm.trans ht
  · cases (isr_fault (src := .tmr) hs hu).symm.trans ht
  · cases (isr_fault (src := .pc) hs hu).symm.trans ht
  · cases hs.symm.trans ht

/-! ### The writers of the interrupt control elements (R27 to R32, R225) -/

/-- No enable is cleared: TMR_ON, TMR_IE, PC_IE and GIE stay set where they are. -/
structure KeepsEnables (s t : State) : Prop where
  tmrOn : s.tmrOn = true → t.tmrOn = true
  tmrIe : s.tmrIe = true → t.tmrIe = true
  pcIe : s.pcIe = true → t.pcIe = true
  gie : s.gie = true → t.gie = true

theorem exec_keepsEnables {i : Instr} {s t : State} (h : exec i s = .next t) : KeepsEnables s t := by
  cases exec_branch h with
  | clkStartFirst => exact ⟨fun _ => rfl, fun _ => rfl, id, id⟩
  | edgeEnable => exact ⟨id, id, fun _ => rfl, id⟩
  | irqEnable => exact ⟨id, id, id, fun _ => rfl⟩
  | _ => exact ⟨id, id, id, id⟩

/-- Return from an ISR sets GIE again, which its entry had cleared (R229). -/
theorem isr_keepsEnables {src : IrqSource} {i : Instr} {s u : State} (h : exec i (s.enterIsr src) = .next u) :
    KeepsEnables s u.leaveIsr := by
  obtain ⟨hon, htmr, hpc, -⟩ := exec_keepsEnables h
  exact ⟨hon, htmr, hpc, fun _ => rfl⟩

theorem agentStep_keepsEnables {a : Agent} {s t : State} (he : canStep a s = true) (h : agentStep a s = .next t) :
    KeepsEnables s t := by
  obtain ⟨rfl, w, rest, -, hi⟩ | ⟨rfl, rfl⟩ | ⟨rfl, u, hu, rfl⟩ | ⟨rfl, u, hu, rfl⟩ | ⟨rfl, rfl⟩ := agentStep_cases he h
  · obtain ⟨c, -, rfl⟩ | ⟨i, u, -, hu, rfl⟩ := issueWord_cases hi
    · exact ⟨id, id, id, id⟩
    · obtain ⟨hon, htmr, hpc, hgie⟩ := exec_keepsEnables hu
      exact ⟨hon, htmr, hpc, hgie⟩
  · obtain h | h := timerFire_cases s <;> rw [h] <;> exact ⟨id, id, id, id⟩
  · exact isr_keepsEnables hu
  · exact isr_keepsEnables hu
  · exact ⟨id, id, id, id⟩

/-- A bit that is never cleared changes only to 1. -/
theorem eq_true_of_changed {b c : Bool} (hkeep : b = true → c = true) (h : c ≠ b) : c = true := by
  cases b with
  | false => exact Bool.eq_true_of_not_eq_false h
  | true => exact hkeep rfl

theorem agentStep_timerFire_tmrPf {s t : State} (h : agentStep .timerFire s = .next t) : t.tmrPf = true := by
  obtain rfl := Host.Outcome.next.inj h
  cases hpf : s.tmrPf with
  | false => rw [timerFire_request hpf]; rfl
  | true => rw [timerFire_overrun hpf]; exact hpf

theorem agentStep_pinEdge_pcPf {s t : State} (h : agentStep .pinEdge s = .next t) : t.pcPf = (s.pcPf || s.pcIe) := by
  obtain rfl := Host.Outcome.next.inj h
  rfl

/-- An ISR's step takes the request of its own source. -/
theorem agentStep_timerIsr_tmrPf {s t : State} (h : agentStep .timerIsr s = .next t) : t.tmrPf = false := by
  obtain ⟨u, hu, rfl⟩ := dispatchIsr_cases h
  have hpf := (exec_writesOnlyItsCells hu).tmrPf
  rwa [enterIsr_tmr] at hpf

theorem agentStep_pinChangeIsr_pcPf {s t : State} (h : agentStep .pinChangeIsr s = .next t) : t.pcPf = false := by
  obtain ⟨u, hu, rfl⟩ := dispatchIsr_cases h
  have hpf := (exec_writesOnlyItsCells hu).pcPf
  rwa [enterIsr_pc] at hpf

/-- Settles O51: who may write a bit is the access matrix (R46); what it writes there is the agent's or the enable's own. -/
theorem interruptControlWriters : Obligations.InterruptControlWriters := by
  intro a s t he h
  obtain ⟨-, -, -, -, -, htmrIe, hpcIe, -, htmrPf, hpcPf, -⟩ := cellsHaveOnlyTheirWriters a s t he h
  obtain ⟨-, keepTmr, keepPc, -⟩ := agentStep_keepsEnables he h
  refine ⟨fun hne => ⟨eq_true_of_changed keepTmr hne, htmrIe hne⟩, fun hne => ⟨eq_true_of_changed keepPc hne, hpcIe hne⟩,
    fun hne => ?_, fun hne => ?_⟩
  · obtain rfl | rfl := htmrPf hne
    · exact .inl ⟨agentStep_timerFire_tmrPf h, rfl⟩
    · exact .inr ⟨agentStep_timerIsr_tmrPf h, rfl⟩
  · obtain rfl | rfl := hpcPf hne
    · rw [agentStep_pinEdge_pcPf h] at hne ⊢
      cases hie : s.pcIe with
      | false => simp [hie] at hne
      | true => exact .inl ⟨Bool.or_true _, rfl, rfl⟩
    · exact .inr ⟨agentStep_pinChangeIsr_pcPf h, rfl⟩

/-! ### The timer's turns (R242) -/

/-- CLK_START and IRQ_ENABLE have run, as far as the timer is concerned. -/
structure TimerRuns (s : State) : Prop where
  tmrOn : s.tmrOn = true
  tmrIe : s.tmrIe = true
  gie : s.gie = true

theorem canStep_timerFire_of_timerRuns {s : State} (hs : TimerRuns s) (hf : s.fault = none) (hpf : s.tmrPf = false) :
    canStep .timerFire s = true :=
  (canStep_timerFire_iff s).2 ⟨hf, hs.tmrOn, .inr hpf⟩

theorem canStep_timerIsr_of_timerRuns {s : State} (hs : TimerRuns s) (hf : s.fault = none) (hpf : s.tmrPf = true) :
    canStep .timerIsr s = true :=
  (canStep_timerIsr_iff s).2 ⟨hf, hs.gie, hs.tmrIe, hpf⟩

theorem agentStep_timerRuns {a : Agent} {s t : State} (hs : TimerRuns s) (he : canStep a s = true)
    (h : agentStep a s = .next t) : TimerRuns t := by
  obtain ⟨hon, hie, -, hgie⟩ := agentStep_keepsEnables he h
  exact ⟨hon hs.tmrOn, hie hs.tmrIe, hgie hs.gie⟩

/-- A pending timer request stays until the timer ISR takes it. -/
theorem agentStep_keeps_tmrPf {a : Agent} {s t : State} (ha : a ≠ .timerIsr) (he : canStep a s = true)
    (h : agentStep a s = .next t) (hpf : s.tmrPf = true) : t.tmrPf = true := by
  by_contra hne
  obtain ⟨-, -, hwriters, -⟩ := interruptControlWriters a s t he h
  obtain ⟨htrue, -⟩ | ⟨-, rfl⟩ := hwriters (by rwa [hpf])
  · exact hne htrue
  · exact ha rfl

/-- Without a request TIMER_FIRE makes one, which the timer ISR may take. -/
theorem timerFire_enables_timerIsr {s : State} (hs : TimerRuns s) (hf : s.fault = none) (hpf : s.tmrPf = false) :
    ∃ t, canStep .timerFire s = true ∧ agentStep .timerFire s = .next t ∧ canStep .timerIsr t = true := by
  have hstep : agentStep .timerFire s = .next (s.requestTimer.log .timerFire) := congrArg Host.Outcome.next (timerFire_request hpf)
  exact ⟨_, canStep_timerFire_of_timerRuns hs hf hpf, hstep,
    canStep_timerIsr_of_timerRuns ⟨hs.tmrOn, hs.tmrIe, hs.gie⟩ hf rfl⟩

/-- The timer ISR takes the request, so the next period may elapse. -/
theorem timerIsr_enables_timerFire {s : State} (hs : TimerRuns s) (hf : s.fault = none) (hpf : s.tmrPf = true) :
    ∃ t, canStep .timerIsr s = true ∧ agentStep .timerIsr s = .next t ∧ canStep .timerFire t = true :=
  ⟨_, canStep_timerIsr_of_timerRuns hs hf hpf, agentStep_timerIsr hs.gie,
    canStep_timerFire_of_timerRuns ⟨hs.tmrOn, hs.tmrIe, hs.gie⟩ hf rfl⟩

/-! ### Fair runs (R241, R242) -/

/-- `n` ticks after `s`: HIST holds `n` more Tick events, and CLK has counted them. -/
def TicksLater (n : Nat) (s t : State) : Prop :=
  tickCount t.hist = tickCount s.hist + n ∧ t.clk = wrap32 (s.clk.toNat + n)

theorem TicksLater.turn {n : Nat} {r s t : State} (hs : TicksLater n r s) (he : canStep .timerIsr s = true)
    (h : agentStep .timerIsr s = .next t) : TicksLater (n + 1) r t := by
  obtain ⟨hcount, hclk⟩ := hs
  refine ⟨by simp [agentStep_tickCount he h, hcount, Nat.add_assoc], ?_⟩
  rw [agentStep_timerIsr_clk h, hclk, nextTick, wrap32_toNat_wrap32_add, Nat.add_assoc]

theorem TicksLater.other {n : Nat} {a : Agent} {r s t : State} (hs : TicksLater n r s) (ha : a ≠ .timerIsr)
    (he : canStep a s = true) (h : agentStep a s = .next t) : TicksLater n r t := by
  obtain ⟨hcount, hclk⟩ := hs
  exact ⟨by simp [agentStep_tickCount he h, ha, hcount], by simp [agentStep_clk he h, ha, hclk]⟩

section FairRun

variable {states : Nat → State} {agents : Nat → Agent} {k : Nat} (hrun : IsRun states agents)
include hrun

/-- A run does not end, so no point of it has a fault. -/
theorem run_fault (m : Nat) : (states m).fault = none := fault_of_canStep (hrun m).1

theorem run_timerRuns (hk : TimerRuns (states k)) {m : Nat} (hm : k ≤ m) : TimerRuns (states m) := by
  induction m, hm using Nat.le_induction with
  | base => exact hk
  | succ m _ ih => exact agentStep_timerRuns ih (hrun m).1 (hrun m).2

theorem ticksLater_succ_of_turn {n : Nat} {s : State} (hk : TicksLater n s (states k)) (hturn : agents k = .timerIsr) :
    TicksLater (n + 1) s (states (k + 1)) := by
  obtain ⟨he, hstep⟩ := hturn ▸ hrun k
  exact hk.turn he hstep

/-- Up to the timer ISR's next turn the ticks stay as they are, and that turn adds one. -/
theorem exists_ticksLater_succ_of_turn {n d : Nat} {s : State} (hk : TicksLater n s (states k))
    (hturn : agents (k + d) = .timerIsr) : ∃ m, k ≤ m ∧ TicksLater (n + 1) s (states m) := by
  induction d generalizing k with
  | zero => exact ⟨k + 1, k.le_succ, ticksLater_succ_of_turn hrun hk hturn⟩
  | succ d ih =>
    by_cases ha : agents k = .timerIsr
    · exact ⟨k + 1, k.le_succ, ticksLater_succ_of_turn hrun hk ha⟩
    · obtain ⟨m, hm, hticks⟩ := ih (hk.other ha (hrun k).1 (hrun k).2) (by rwa [Nat.add_right_comm])
      exact ⟨m, Nat.le_of_succ_le hm, hticks⟩

variable (hfair : WeaklyFair states agents)
include hfair

/-- While no request is pending TIMER_FIRE is enabled, so fairness makes it happen. -/
theorem exists_pending (hk : TimerRuns (states k)) : ∃ m, k ≤ m ∧ (states m).tmrPf = true := by
  by_contra! hnone
  obtain ⟨m, hm, hoff | hfire⟩ := hfair .timerFire (by decide) k
  · have hpf : (states m).tmrPf = false := Bool.eq_false_of_not_eq_true (hnone m hm)
    have hon := canStep_timerFire_of_timerRuns (run_timerRuns hrun hk hm) (run_fault hrun m) hpf
    cases hoff.symm.trans hon
  · have hstep := (hrun m).2
    rw [hfire] at hstep
    exact hnone (m + 1) (by omega) (agentStep_timerFire_tmrPf hstep)

/-- While a request is pending the timer ISR is enabled, so fairness makes it run. -/
theorem exists_turn_of_pending (hk : TimerRuns (states k)) (hpf : (states k).tmrPf = true) :
    ∃ m, k ≤ m ∧ agents m = .timerIsr := by
  by_contra! hnone
  have hpending {m : Nat} (hm : k ≤ m) : (states m).tmrPf = true := by
    induction m, hm using Nat.le_induction with
    | base => exact hpf
    | succ m hm ih => exact agentStep_keeps_tmrPf (hnone m hm) (hrun m).1 (hrun m).2 ih
  obtain ⟨m, hm, hoff | hturn⟩ := hfair .timerIsr (by decide) k
  · have hon := canStep_timerIsr_of_timerRuns (run_timerRuns hrun hk hm) (run_fault hrun m) (hpending hm)
    cases hoff.symm.trans hon
  · exact hnone m hm hturn

theorem exists_turn (hk : TimerRuns (states k)) : ∃ d, agents (k + d) = .timerIsr := by
  obtain ⟨p, hp, hpf⟩ := exists_pending hrun hfair hk
  obtain ⟨m, hm, hturn⟩ := exists_turn_of_pending hrun hfair (run_timerRuns hrun hk hp) hpf
  obtain ⟨d, rfl⟩ := Nat.exists_eq_add_of_le (hp.trans hm)
  exact ⟨d, hturn⟩

theorem exists_ticksLater (hk : TimerRuns (states k)) (n : Nat) : ∃ m, k ≤ m ∧ TicksLater n (states k) (states m) := by
  induction n with
  | zero => exact ⟨k, le_rfl, rfl, (wrap32_toNat _).symm⟩
  | succ n ih =>
    obtain ⟨m, hm, hticks⟩ := ih
    obtain ⟨d, hturn⟩ := exists_turn hrun hfair (run_timerRuns hrun hk hm)
    obtain ⟨j, hj, hsucc⟩ := exists_ticksLater_succ_of_turn hrun hticks hturn
    exact ⟨j, hm.trans hj, hsucc⟩

end FairRun

/-- Settles O27: fairness brings the timer ISR's turn again and again, and each turn counts one tick. -/
theorem ticksKeepComing : Obligations.TicksKeepComing := by
  refine ⟨fun states agents k hrun hfair hon hie hgie n => exists_ticksLater hrun hfair ⟨hon, hie, hgie⟩ n,
    fun s hf hon hie hgie => ?_⟩
  have hs : TimerRuns s := ⟨hon, hie, hgie⟩
  exact ⟨timerFire_enables_timerIsr hs hf, timerIsr_enables_timerFire hs hf⟩

end Sys2Proof.Machine

/-!
The statements about reset and boot (spec 70_reset_and_hazards.md): the reset values (R260), and the launch whose peripheral
acquisition failed (R244, R264). That launch only raises in the reset state, so R36 and R222 say that nothing is enabled in it.
-/

namespace Sys2Proof.Machine

/-! ### The state after reset (R260) -/

@[simp] theorem State.reset_fault : State.reset.fault = none := rfl
@[simp] theorem State.reset_hist : State.reset.hist = [] := rfl

/-- Settles O55: a launch writes every element of R260 and passes on the pin and the decoder it is given; reset is the launch with
the parameters of Config. -/
theorem resetValues : Obligations.ResetValues := by
  refine ⟨fun pin d0 correct program l => ?_, ?_⟩
  · exact ⟨rfl, rfl, rfl, rfl, rfl, rfl, rfl, rfl, rfl, rfl, rfl, rfl, rfl, rfl, rfl⟩
  · exact ⟨Config.pinAtReset, .external Config.decoderInit, .parameter Config.hostInit, [], rfl⟩

/-! ### The halted launch (R244, R264) -/

/-- A fault raised where nothing has happened yet is the only event. -/
theorem State.raise_of_hist_nil {s : State} (h : s.hist = []) (c : FaultCode) (n : Nat) :
    s.raise c n = { s with fault := some c, hist := [.fault c n] } := by
  simp [State.raise, h]

/-- Settles O56: the halted launch is the reset state with BOOT_HALT raised, and a fault stops every agent. -/
theorem bootHaltIsStuck : Obligations.BootHaltIsStuck := by
  have hhalted := State.raise_of_hist_nil State.reset_hist .bootHalt 0
  obtain ⟨hagents, hstep⟩ := faultStopsEveryAgent State.bootHalted .bootHalt State.bootHalted_fault
  exact ⟨State.reset_fault, hhalted, hagents, hstep⟩

end Sys2Proof.Machine
